-- ==== Sys2Proof/Word.lean ====
section
/-! DEFINITION. The word types of the TLCS-90 core (spec 00 R5, 10 R20, 20 R60). -/

namespace Sys2Proof

/-- An 8-bit byte: memory cells, half registers, F, ports, control registers (R5). -/
abbrev Byte := BitVec 8

/-- A 16-bit cell: register pairs, IX, IY, SP, PC, effective addresses (R20). -/
abbrev Word := BitVec 16

/-- A 20-bit address as the memory interface sees it (R60). -/
abbrev Addr := BitVec 20

/-- A bit number 0..7, 0 the least significant (R99). -/
abbrev BitNo := BitVec 3

end Sys2Proof
end

