-- ==== Sys2Proof/Machine/Bits.lean ====
section
/-! DEFINITION. Bit-field, sign-extension and byte-order helpers (spec 00 section 4.1, 20 R61, R65, R68). -/

namespace Sys2Proof

/-- The less significant byte of a word. -/
def loByte (w : Word) : Byte := w.extractLsb' 0 8

/-- The more significant byte of a word. -/
def hiByte (w : Word) : Byte := w.extractLsb' 8 8

/-- `{hi, lo}` of section 4.1. -/
def joinBytes (hi lo : Byte) : Word := hi ++ lo

/-- `sext_16` of an 8-bit value. -/
def sext16 (v : Byte) : Word := v.signExtend 16

/-- `{bank, ea}`: the 20-bit address of R68. -/
def bankAddr (bank : BitVec 4) (ea : Word) : Addr := bank ++ ea

/-- `{0x0, ea}`: an address of bank 0 (R68). -/
def bank0 (ea : Word) : Addr := bankAddr 0 ea

/-- `next(addr)` of R65: the next byte, wrapping inside the 64 KiB bank. -/
def nextAddr (a : Addr) : Addr := bankAddr (a.extractLsb' 16 4) (a.extractLsb' 0 16 + 1)

/-- `parity_even` of section 4.1: an even number of 1 bits. -/
def parityEven (v : Byte) : Bool :=
  !(v.getLsbD 0 ^^ v.getLsbD 1 ^^ v.getLsbD 2 ^^ v.getLsbD 3 ^^ v.getLsbD 4 ^^ v.getLsbD 5 ^^ v.getLsbD 6 ^^ v.getLsbD 7)

/-- `1 << b` (R252). -/
def bitMask (b : BitNo) : Byte := 1#8 <<< b.toNat

end Sys2Proof
end

