-- ==== Sys2Proof/Syntax.lean ====
section
/-! DEFINITION. The abstract syntax: operand types of spec 10 R32 and 44 R275, and ONE inductive `Instr` that
covers the 416 rows of spec/opcode_table.json, in the table's order: one constructor per row, the rows of one
instruction that differ ONLY in the addressing mode of their memory operand `(m)` (the formats SRC_GG, SRC_MN, SRC_DP,
SRC_XD, SRC_HLA, or DST_GG … DST_HLA) being one constructor with that operand as its argument `m`, as the instruction
rules of spec 40 to 44 write them. Lean compiles no inductive with more than 244 constructors that carry data (log
entry 9). A constructor's docstring gives the table's row numbers, counted from 0, the syntax, the encoding and the
rule that defines the semantics. -/

namespace Sys2Proof

/-- The 8-bit registers of the `r` field (R32). Code 7 is not a register and has no constructor. -/
inductive Reg8 where
  | b | c | d | e | h | l | a
deriving DecidableEq, Repr

/-- The 16-bit registers of the `gg` field (R32). Codes 3 and 7 are not registers and have no constructor. -/
inductive Reg16 where
  | bc | de | hl | ix | iy | sp
deriving DecidableEq, Repr

/-- The 16-bit registers of the `qq` field of PUSH and POP (R32): code 6 is AF. -/
inductive RegQ where
  | bc | de | hl | ix | iy | af
deriving DecidableEq, Repr

/-- The registers of the 2-bit `ix` field (R32). Code 3 is not a register and has no constructor. -/
inductive RegX where
  | ix | iy | sp
deriving DecidableEq, Repr

/-- The condition codes 0..15 in code order (R275): F LT LE ULE OV MI Z C T GE GT UGT NOV PL NZ NC. -/
inductive Cond where
  | f | lt | le | ule | ov | mi | z | c | t | ge | gt | ugt | nov | pl | nz | nc
deriving DecidableEq, Repr

/-- The eight ALU operations in the code order of R99. -/
inductive AluOp where
  | add | adc | sub | sbc | and | xor | or | cp
deriving DecidableEq, Repr

/-- The eight shifts and rotates in the code order of R99. -/
inductive RotOp where
  | rlc | rrc | rl | rr | sla | sra | sll | srl
deriving DecidableEq, Repr

/-- The five memory operands `(m)` of R95, R96 and R100 to R104: the format of a SRC or DST row with its fields. -/
inductive Mem where
  /-- `(gg)`, R100. -/
  | gg (p : Reg16)
  /-- `(mn)`, R101. -/
  | mn (a : Word)
  /-- `(0FF00h+u)`, R102. -/
  | dp (u : Byte)
  /-- `(ix+d)`, R103. -/
  | xd (y : RegX) (d : Byte)
  /-- `(HL+A)`, R104. -/
  | hla
deriving DecidableEq, Repr

/-- The instructions. Argument letters are those of R121: `r p g q x` register fields, `m` the memory operand, `b` bit
number, `cc` condition, `n u e` bytes, `w` a 16-bit immediate mn, `st` a 16-bit displacement. -/
inductive Instr where
  /-- Row 0: `NOP`, BASE `00000000` (R285). -/
  | nop
  /-- Row 1: `HALT`, BASE `00000001` (R286). -/
  | halt
  /-- Row 2: `DI`, BASE `00000010` (R287). -/
  | di
  /-- Row 3: `EI`, BASE `00000011` (R288). -/
  | ei
  /-- Row 4: `INCX (0FF00h+u)`, BASE `00000111 uuuuuuuu` (R221). -/
  | incx (u : Byte)
  /-- Row 5: `EX DE,HL`, BASE `00001000` (R145). -/
  | exDeHl
  /-- Row 6: `EX AF,AF'`, BASE `00001001` (R146). -/
  | exAfAf
  /-- Row 7: `EXX`, BASE `00001010` (R147). -/
  | exx
  /-- Row 8: `DAA A`, BASE `00001011` (R225). -/
  | daa
  /-- Row 9: `RCF`, BASE `00001100` (R255). -/
  | rcf
  /-- Row 10: `SCF`, BASE `00001101` (R256). -/
  | scf
  /-- Row 11: `CCF`, BASE `00001110` (R257). -/
  | ccf
  /-- Row 12: `DECX (0FF00h+u)`, BASE `00001111 uuuuuuuu` (R222). -/
  | decx (u : Byte)
  /-- Row 13: `CPL A`, BASE `00010000` (R224). -/
  | cpl
  /-- Row 14: `NEG A`, BASE `00010001` (R223). -/
  | neg
  /-- Row 15: `MUL HL,n`, BASE `00010010 nnnnnnnn` (R226). -/
  | mulN (n : Byte)
  /-- Row 16: `DIV HL,n`, BASE `00010011 nnnnnnnn` (R227). -/
  | divN (n : Byte)
  /-- Row 17: `ADD ix,mn`, BASE `000101xx llllllll hhhhhhhh` (R214). -/
  | addXW (x : RegX) (w : Word)
  /-- Row 18: `LDAR HL,$+3+st`, BASE `00010111 ssssssss tttttttt` (R142). -/
  | ldar (st : Word)
  /-- Row 19: `DJNZ $+2+e`, BASE `00011000 eeeeeeee` (R283). -/
  | djnz (e : Byte)
  /-- Row 20: `DJNZ BC,$+2+e`, BASE `00011001 eeeeeeee` (R284). -/
  | djnzBc (e : Byte)
  /-- Row 21: `JP mn`, BASE `00011010 llllllll hhhhhhhh` (R276). -/
  | jp (w : Word)
  /-- Row 22: `JRL $+3+st`, BASE `00011011 ssssssss tttttttt` (R278). -/
  | jrl (st : Word)
  /-- Row 23: `CALL mn`, BASE `00011100 llllllll hhhhhhhh` (R279). -/
  | call (w : Word)
  /-- Row 24: `CALLR $+3+st`, BASE `00011101 ssssssss tttttttt` (R280). -/
  | callr (st : Word)
  /-- Row 25: `RET`, BASE `00011110` (R281). -/
  | ret
  /-- Row 26: `RETI`, BASE `00011111` (R282). -/
  | reti
  /-- Row 27: `LD A,r`, BASE `00100rrr` (R131). -/
  | ldAR (r : Reg8)
  /-- Row 28: `LD A,(0FF00h+u)`, BASE `00100111 uuuuuuuu` (R133). -/
  | ldAAtU (u : Byte)
  /-- Row 29: `LD r,A`, BASE `00101rrr` (R131). -/
  | ldRA (r : Reg8)
  /-- Row 30: `LD (0FF00h+u),A`, BASE `00101111 uuuuuuuu` (R134). -/
  | ldAtUA (u : Byte)
  /-- Row 31: `LD r,n`, BASE `00110rrr nnnnnnnn` (R132). -/
  | ldRN (r : Reg8) (n : Byte)
  /-- Row 32: `LD (0FF00h+u),n`, BASE `00110111 uuuuuuuu nnnnnnnn` (R135). -/
  | ldAtUN (u : Byte) (n : Byte)
  /-- Row 33: `LD gg,mn`, BASE `00111ggg llllllll hhhhhhhh` (R136). -/
  | ldGW (g : Reg16) (w : Word)
  /-- Row 34: `LDW (0FF00h+u),mn`, BASE `00111111 uuuuuuuu llllllll hhhhhhhh` (R140). -/
  | ldwAtU (u : Byte) (w : Word)
  /-- Row 35: `LD HL,gg`, BASE `01000ggg` (R137). -/
  | ldHlG (g : Reg16)
  /-- Row 36: `LD HL,(0FF00h+u)`, BASE `01000111 uuuuuuuu` (R138). -/
  | ldHlAtU (u : Byte)
  /-- Row 37: `LD gg,HL`, BASE `01001ggg` (R137). -/
  | ldGHl (g : Reg16)
  /-- Row 38: `LD (0FF00h+u),HL`, BASE `01001111 uuuuuuuu` (R139). -/
  | ldAtUHl (u : Byte)
  /-- Row 39: `PUSH qq`, BASE `01010qqq` (R143). -/
  | push (q : RegQ)
  /-- Row 40: `POP qq`, BASE `01011qqq` (R144). -/
  | pop (q : RegQ)
  /-- Row 41: `ADD A,(0FF00h+u)`, BASE `01100000 uuuuuuuu` (R190). -/
  | addAAtU (u : Byte)
  /-- Row 42: `ADD A,n`, BASE `01101000 nnnnnnnn` (R190). -/
  | addAN (n : Byte)
  /-- Row 43: `ADD HL,(0FF00h+u)`, BASE `01110000 uuuuuuuu` (R206). -/
  | addHlAtU (u : Byte)
  /-- Row 44: `ADD HL,mn`, BASE `01111000 llllllll hhhhhhhh` (R206). -/
  | addHlW (w : Word)
  /-- Row 45: `ADC A,(0FF00h+u)`, BASE `01100001 uuuuuuuu` (R191). -/
  | adcAAtU (u : Byte)
  /-- Row 46: `ADC A,n`, BASE `01101001 nnnnnnnn` (R191). -/
  | adcAN (n : Byte)
  /-- Row 47: `ADC HL,(0FF00h+u)`, BASE `01110001 uuuuuuuu` (R207). -/
  | adcHlAtU (u : Byte)
  /-- Row 48: `ADC HL,mn`, BASE `01111001 llllllll hhhhhhhh` (R207). -/
  | adcHlW (w : Word)
  /-- Row 49: `SUB A,(0FF00h+u)`, BASE `01100010 uuuuuuuu` (R192). -/
  | subAAtU (u : Byte)
  /-- Row 50: `SUB A,n`, BASE `01101010 nnnnnnnn` (R192). -/
  | subAN (n : Byte)
  /-- Row 51: `SUB HL,(0FF00h+u)`, BASE `01110010 uuuuuuuu` (R208). -/
  | subHlAtU (u : Byte)
  /-- Row 52: `SUB HL,mn`, BASE `01111010 llllllll hhhhhhhh` (R208). -/
  | subHlW (w : Word)
  /-- Row 53: `SBC A,(0FF00h+u)`, BASE `01100011 uuuuuuuu` (R193). -/
  | sbcAAtU (u : Byte)
  /-- Row 54: `SBC A,n`, BASE `01101011 nnnnnnnn` (R193). -/
  | sbcAN (n : Byte)
  /-- Row 55: `SBC HL,(0FF00h+u)`, BASE `01110011 uuuuuuuu` (R209). -/
  | sbcHlAtU (u : Byte)
  /-- Row 56: `SBC HL,mn`, BASE `01111011 llllllll hhhhhhhh` (R209). -/
  | sbcHlW (w : Word)
  /-- Row 57: `AND A,(0FF00h+u)`, BASE `01100100 uuuuuuuu` (R194). -/
  | andAAtU (u : Byte)
  /-- Row 58: `AND A,n`, BASE `01101100 nnnnnnnn` (R194). -/
  | andAN (n : Byte)
  /-- Row 59: `AND HL,(0FF00h+u)`, BASE `01110100 uuuuuuuu` (R210). -/
  | andHlAtU (u : Byte)
  /-- Row 60: `AND HL,mn`, BASE `01111100 llllllll hhhhhhhh` (R210). -/
  | andHlW (w : Word)
  /-- Row 61: `XOR A,(0FF00h+u)`, BASE `01100101 uuuuuuuu` (R195). -/
  | xorAAtU (u : Byte)
  /-- Row 62: `XOR A,n`, BASE `01101101 nnnnnnnn` (R195). -/
  | xorAN (n : Byte)
  /-- Row 63: `XOR HL,(0FF00h+u)`, BASE `01110101 uuuuuuuu` (R211). -/
  | xorHlAtU (u : Byte)
  /-- Row 64: `XOR HL,mn`, BASE `01111101 llllllll hhhhhhhh` (R211). -/
  | xorHlW (w : Word)
  /-- Row 65: `OR A,(0FF00h+u)`, BASE `01100110 uuuuuuuu` (R196). -/
  | orAAtU (u : Byte)
  /-- Row 66: `OR A,n`, BASE `01101110 nnnnnnnn` (R196). -/
  | orAN (n : Byte)
  /-- Row 67: `OR HL,(0FF00h+u)`, BASE `01110110 uuuuuuuu` (R212). -/
  | orHlAtU (u : Byte)
  /-- Row 68: `OR HL,mn`, BASE `01111110 llllllll hhhhhhhh` (R212). -/
  | orHlW (w : Word)
  /-- Row 69: `CP A,(0FF00h+u)`, BASE `01100111 uuuuuuuu` (R197). -/
  | cpAAtU (u : Byte)
  /-- Row 70: `CP A,n`, BASE `01101111 nnnnnnnn` (R197). -/
  | cpAN (n : Byte)
  /-- Row 71: `CP HL,(0FF00h+u)`, BASE `01110111 uuuuuuuu` (R213). -/
  | cpHlAtU (u : Byte)
  /-- Row 72: `CP HL,mn`, BASE `01111111 llllllll hhhhhhhh` (R213). -/
  | cpHlW (w : Word)
  /-- Row 73: `INC r`, BASE `10000rrr` (R215). -/
  | incR (r : Reg8)
  /-- Row 74: `INC (0FF00h+u)`, BASE `10000111 uuuuuuuu` (R215). -/
  | incAtU (u : Byte)
  /-- Row 75: `DEC r`, BASE `10001rrr` (R216). -/
  | decR (r : Reg8)
  /-- Row 76: `DEC (0FF00h+u)`, BASE `10001111 uuuuuuuu` (R216). -/
  | decAtU (u : Byte)
  /-- Row 77: `INC gg`, BASE `10010ggg` (R217). -/
  | incG (g : Reg16)
  /-- Row 78: `INCW (0FF00h+u)`, BASE `10010111 uuuuuuuu` (R219). -/
  | incwAtU (u : Byte)
  /-- Row 79: `DEC gg`, BASE `10011ggg` (R218). -/
  | decG (g : Reg16)
  /-- Row 80: `DECW (0FF00h+u)`, BASE `10011111 uuuuuuuu` (R220). -/
  | decwAtU (u : Byte)
  /-- Row 81: `RLCA`, BASE `10100000` (R241). -/
  | rlca
  /-- Row 82: `RRCA`, BASE `10100001` (R242). -/
  | rrca
  /-- Row 83: `RLA`, BASE `10100010` (R243). -/
  | rla
  /-- Row 84: `RRA`, BASE `10100011` (R244). -/
  | rra
  /-- Row 85: `SLAA`, BASE `10100100` (R245). -/
  | slaa
  /-- Row 86: `SRAA`, BASE `10100101` (R246). -/
  | sraa
  /-- Row 87: `SLLA`, BASE `10100110` (R247). -/
  | slla
  /-- Row 88: `SRLA`, BASE `10100111` (R248). -/
  | srla
  /-- Row 89: `BIT b,(0FF00h+u)`, BASE `10101bbb uuuuuuuu` (R251). -/
  | bitAtU (b : BitNo) (u : Byte)
  /-- Row 90: `RES b,(0FF00h+u)`, BASE `10110bbb uuuuuuuu` (R253). -/
  | resAtU (b : BitNo) (u : Byte)
  /-- Row 91: `SET b,(0FF00h+u)`, BASE `10111bbb uuuuuuuu` (R252). -/
  | setAtU (b : BitNo) (u : Byte)
  /-- Row 92: `JR cc,$+2+e`, BASE `1100cccc eeeeeeee` (R277). -/
  | jr (cc : Cond) (e : Byte)
  /-- Row 93: `SWI`, BASE `11111111` (R289). -/
  | swi
  /-- Rows 94, 134, 174, 214, 254: `RLD (m)`, SRC bytes of `m` then `00010000` (R249). -/
  | rldAt (m : Mem)
  /-- Rows 95, 135, 175, 215, 255: `RRD (m)`, SRC bytes of `m` then `00010001` (R250). -/
  | rrdAt (m : Mem)
  /-- Rows 96, 136, 176, 216, 256: `MUL HL,(m)`, SRC bytes of `m` then `00010010` (R226). -/
  | mulAt (m : Mem)
  /-- Rows 97, 137, 177, 217, 257: `DIV HL,(m)`, SRC bytes of `m` then `00010011` (R227). -/
  | divAt (m : Mem)
  /-- Rows 98, 138, 178, 218, 258: `ADD ix,(m)`, SRC bytes of `m` then `000101xx` (R214). -/
  | addXAt (x : RegX) (m : Mem)
  /-- Rows 99, 139, 179, 219, 259: `TSET b,(m)`, SRC bytes of `m` then `00011bbb` (R254). -/
  | tsetAt (b : BitNo) (m : Mem)
  /-- Rows 100, 140, 180, 220, 260: `LD r,(m)`, SRC bytes of `m` then `00101rrr` (R133). -/
  | ldRAt (r : Reg8) (m : Mem)
  /-- Rows 101, 141, 181, 221, 261: `LD gg,(m)`, SRC bytes of `m` then `01001ggg` (R138). -/
  | ldGAt (g : Reg16) (m : Mem)
  /-- Rows 102, 142, 182, 222, 262: `EX (m),gg`, SRC bytes of `m` then `01010ggg` (R148). -/
  | exAt (m : Mem) (g : Reg16)
  /-- Rows 103, 143, 183, 223, 263: `ADD A,(m)`, SRC bytes of `m` then `01100000` (R190). -/
  | addAAt (m : Mem)
  /-- Rows 104, 144, 184, 224, 264: `ADD HL,(m)`, SRC bytes of `m` then `01110000` (R206). -/
  | addHlAt (m : Mem)
  /-- Rows 105, 145, 185, 225, 265: `ADC A,(m)`, SRC bytes of `m` then `01100001` (R191). -/
  | adcAAt (m : Mem)
  /-- Rows 106, 146, 186, 226, 266: `ADC HL,(m)`, SRC bytes of `m` then `01110001` (R207). -/
  | adcHlAt (m : Mem)
  /-- Rows 107, 147, 187, 227, 267: `SUB A,(m)`, SRC bytes of `m` then `01100010` (R192). -/
  | subAAt (m : Mem)
  /-- Rows 108, 148, 188, 228, 268: `SUB HL,(m)`, SRC bytes of `m` then `01110010` (R208). -/
  | subHlAt (m : Mem)
  /-- Rows 109, 149, 189, 229, 269: `SBC A,(m)`, SRC bytes of `m` then `01100011` (R193). -/
  | sbcAAt (m : Mem)
  /-- Rows 110, 150, 190, 230, 270: `SBC HL,(m)`, SRC bytes of `m` then `01110011` (R209). -/
  | sbcHlAt (m : Mem)
  /-- Rows 111, 151, 191, 231, 271: `AND A,(m)`, SRC bytes of `m` then `01100100` (R194). -/
  | andAAt (m : Mem)
  /-- Rows 112, 152, 192, 232, 272: `AND HL,(m)`, SRC bytes of `m` then `01110100` (R210). -/
  | andHlAt (m : Mem)
  /-- Rows 113, 153, 193, 233, 273: `XOR A,(m)`, SRC bytes of `m` then `01100101` (R195). -/
  | xorAAt (m : Mem)
  /-- Rows 114, 154, 194, 234, 274: `XOR HL,(m)`, SRC bytes of `m` then `01110101` (R211). -/
  | xorHlAt (m : Mem)
  /-- Rows 115, 155, 195, 235, 275: `OR A,(m)`, SRC bytes of `m` then `01100110` (R196). -/
  | orAAt (m : Mem)
  /-- Rows 116, 156, 196, 236, 276: `OR HL,(m)`, SRC bytes of `m` then `01110110` (R212). -/
  | orHlAt (m : Mem)
  /-- Rows 117, 157, 197, 237, 277: `CP A,(m)`, SRC bytes of `m` then `01100111` (R197). -/
  | cpAAt (m : Mem)
  /-- Rows 118, 158, 198, 238, 278: `CP HL,(m)`, SRC bytes of `m` then `01110111` (R213). -/
  | cpHlAt (m : Mem)
  /-- Rows 119, 159, 199, 239, 279: `INC (m)`, SRC bytes of `m` then `10000111` (R215). -/
  | incAt (m : Mem)
  /-- Rows 120, 160, 200, 240, 280: `DEC (m)`, SRC bytes of `m` then `10001111` (R216). -/
  | decAt (m : Mem)
  /-- Rows 121, 161, 201, 241, 281: `INCW (m)`, SRC bytes of `m` then `10010111` (R219). -/
  | incwAt (m : Mem)
  /-- Rows 122, 162, 202, 242, 282: `DECW (m)`, SRC bytes of `m` then `10011111` (R220). -/
  | decwAt (m : Mem)
  /-- Rows 123, 163, 203, 243, 283: `RLC (m)`, SRC bytes of `m` then `10100000` (R241). -/
  | rlcAt (m : Mem)
  /-- Rows 124, 164, 204, 244, 284: `RRC (m)`, SRC bytes of `m` then `10100001` (R242). -/
  | rrcAt (m : Mem)
  /-- Rows 125, 165, 205, 245, 285: `RL (m)`, SRC bytes of `m` then `10100010` (R243). -/
  | rlAt (m : Mem)
  /-- Rows 126, 166, 206, 246, 286: `RR (m)`, SRC bytes of `m` then `10100011` (R244). -/
  | rrAt (m : Mem)
  /-- Rows 127, 167, 207, 247, 287: `SLA (m)`, SRC bytes of `m` then `10100100` (R245). -/
  | slaAt (m : Mem)
  /-- Rows 128, 168, 208, 248, 288: `SRA (m)`, SRC bytes of `m` then `10100101` (R246). -/
  | sraAt (m : Mem)
  /-- Rows 129, 169, 209, 249, 289: `SLL (m)`, SRC bytes of `m` then `10100110` (R247). -/
  | sllAt (m : Mem)
  /-- Rows 130, 170, 210, 250, 290: `SRL (m)`, SRC bytes of `m` then `10100111` (R248). -/
  | srlAt (m : Mem)
  /-- Rows 131, 171, 211, 251, 291: `BIT b,(m)`, SRC bytes of `m` then `10101bbb` (R251). -/
  | bitAt (b : BitNo) (m : Mem)
  /-- Rows 132, 172, 212, 252, 292: `RES b,(m)`, SRC bytes of `m` then `10110bbb` (R253). -/
  | resAt (b : BitNo) (m : Mem)
  /-- Rows 133, 173, 213, 253, 293: `SET b,(m)`, SRC bytes of `m` then `10111bbb` (R252). -/
  | setAt (b : BitNo) (m : Mem)
  /-- Rows 294, 308, 322, 336, 351: `LD (m),r`, DST bytes of `m` then `00100rrr` (R134). -/
  | ldAtR (m : Mem) (r : Reg8)
  /-- Rows 295, 309, 323, 337, 352: `LD (m),n`, DST bytes of `m` then `00110111 nnnnnnnn` (R135). -/
  | ldAtN (m : Mem) (n : Byte)
  /-- Rows 296, 310, 324, 339, 354: `LDW (m),mn`, DST bytes of `m` then `00111111 llllllll hhhhhhhh` (R140). -/
  | ldwAt (m : Mem) (w : Word)
  /-- Rows 297, 311, 325, 340, 355: `LD (m),gg`, DST bytes of `m` then `01000ggg` (R139). -/
  | ldAtG (m : Mem) (g : Reg16)
  /-- Rows 298, 312, 326, 341, 356: `ADD (m),n`, DST bytes of `m` then `01101000 nnnnnnnn` (R190). -/
  | addAtN (m : Mem) (n : Byte)
  /-- Rows 299, 313, 327, 342, 357: `ADC (m),n`, DST bytes of `m` then `01101001 nnnnnnnn` (R191). -/
  | adcAtN (m : Mem) (n : Byte)
  /-- Rows 300, 314, 328, 343, 358: `SUB (m),n`, DST bytes of `m` then `01101010 nnnnnnnn` (R192). -/
  | subAtN (m : Mem) (n : Byte)
  /-- Rows 301, 315, 329, 344, 359: `SBC (m),n`, DST bytes of `m` then `01101011 nnnnnnnn` (R193). -/
  | sbcAtN (m : Mem) (n : Byte)
  /-- Rows 302, 316, 330, 345, 360: `AND (m),n`, DST bytes of `m` then `01101100 nnnnnnnn` (R194). -/
  | andAtN (m : Mem) (n : Byte)
  /-- Rows 303, 317, 331, 346, 361: `XOR (m),n`, DST bytes of `m` then `01101101 nnnnnnnn` (R195). -/
  | xorAtN (m : Mem) (n : Byte)
  /-- Rows 304, 318, 332, 347, 362: `OR (m),n`, DST bytes of `m` then `01101110 nnnnnnnn` (R196). -/
  | orAtN (m : Mem) (n : Byte)
  /-- Rows 305, 319, 333, 348, 363: `CP (m),n`, DST bytes of `m` then `01101111 nnnnnnnn` (R197). -/
  | cpAtN (m : Mem) (n : Byte)
  /-- Rows 306, 320, 334, 349, 364: `JP cc,ea`, DST bytes of `m` then `1100cccc` (R276). -/
  | jpCc (cc : Cond) (m : Mem)
  /-- Rows 307, 321, 335, 350, 365: `CALL cc,ea`, DST bytes of `m` then `1101cccc` (R279). -/
  | callCc (cc : Cond) (m : Mem)
  /-- Rows 338, 353: `LDA gg,ea`, DST bytes of `m` then `00111ggg` (R141). -/
  | lda (g : Reg16) (m : Mem)
  /-- Row 366: `MUL HL,r`, REG `11111ppp 00010010` (R226). -/
  | mulR (p : Reg8)
  /-- Row 367: `DIV HL,r`, REG `11111ppp 00010011` (R227). -/
  | divR (p : Reg8)
  /-- Row 368: `ADD ix,gg`, REG `11111ppp 000101xx` (R214). -/
  | addXG (x : RegX) (p : Reg16)
  /-- Row 369: `TSET b,r`, REG `11111ppp 00011bbb` (R254). -/
  | tsetR (b : BitNo) (p : Reg8)
  /-- Row 370: `LD r',r`, REG `11111ppp 00110rrr` (R131). -/
  | ldRR (r : Reg8) (p : Reg8)
  /-- Row 371: `LD gg',gg`, REG `11111ppp 00111ggg` (R137). -/
  | ldGG (g : Reg16) (p : Reg16)
  /-- Row 372: `LDI`, REG `11111110 01011000` (R170). -/
  | ldi
  /-- Row 373: `LDIR`, REG `11111110 01011001` (R171). -/
  | ldir
  /-- Row 374: `LDD`, REG `11111110 01011010` (R172). -/
  | ldd
  /-- Row 375: `LDDR`, REG `11111110 01011011` (R173). -/
  | lddr
  /-- Row 376: `CPI`, REG `11111110 01011100` (R174). -/
  | cpi
  /-- Row 377: `CPIR`, REG `11111110 01011101` (R175). -/
  | cpir
  /-- Row 378: `CPD`, REG `11111110 01011110` (R176). -/
  | cpd
  /-- Row 379: `CPDR`, REG `11111110 01011111` (R177). -/
  | cpdr
  /-- Row 380: `ADD A,r`, REG `11111ppp 01100000` (R190). -/
  | addAR (p : Reg8)
  /-- Row 381: `ADD r,n`, REG `11111ppp 01101000 nnnnnnnn` (R190). -/
  | addRN (p : Reg8) (n : Byte)
  /-- Row 382: `ADD HL,gg`, REG `11111ppp 01110000` (R206). -/
  | addHlG (p : Reg16)
  /-- Row 383: `ADC A,r`, REG `11111ppp 01100001` (R191). -/
  | adcAR (p : Reg8)
  /-- Row 384: `ADC r,n`, REG `11111ppp 01101001 nnnnnnnn` (R191). -/
  | adcRN (p : Reg8) (n : Byte)
  /-- Row 385: `ADC HL,gg`, REG `11111ppp 01110001` (R207). -/
  | adcHlG (p : Reg16)
  /-- Row 386: `SUB A,r`, REG `11111ppp 01100010` (R192). -/
  | subAR (p : Reg8)
  /-- Row 387: `SUB r,n`, REG `11111ppp 01101010 nnnnnnnn` (R192). -/
  | subRN (p : Reg8) (n : Byte)
  /-- Row 388: `SUB HL,gg`, REG `11111ppp 01110010` (R208). -/
  | subHlG (p : Reg16)
  /-- Row 389: `SBC A,r`, REG `11111ppp 01100011` (R193). -/
  | sbcAR (p : Reg8)
  /-- Row 390: `SBC r,n`, REG `11111ppp 01101011 nnnnnnnn` (R193). -/
  | sbcRN (p : Reg8) (n : Byte)
  /-- Row 391: `SBC HL,gg`, REG `11111ppp 01110011` (R209). -/
  | sbcHlG (p : Reg16)
  /-- Row 392: `AND A,r`, REG `11111ppp 01100100` (R194). -/
  | andAR (p : Reg8)
  /-- Row 393: `AND r,n`, REG `11111ppp 01101100 nnnnnnnn` (R194). -/
  | andRN (p : Reg8) (n : Byte)
  /-- Row 394: `AND HL,gg`, REG `11111ppp 01110100` (R210). -/
  | andHlG (p : Reg16)
  /-- Row 395: `XOR A,r`, REG `11111ppp 01100101` (R195). -/
  | xorAR (p : Reg8)
  /-- Row 396: `XOR r,n`, REG `11111ppp 01101101 nnnnnnnn` (R195). -/
  | xorRN (p : Reg8) (n : Byte)
  /-- Row 397: `XOR HL,gg`, REG `11111ppp 01110101` (R211). -/
  | xorHlG (p : Reg16)
  /-- Row 398: `OR A,r`, REG `11111ppp 01100110` (R196). -/
  | orAR (p : Reg8)
  /-- Row 399: `OR r,n`, REG `11111ppp 01101110 nnnnnnnn` (R196). -/
  | orRN (p : Reg8) (n : Byte)
  /-- Row 400: `OR HL,gg`, REG `11111ppp 01110110` (R212). -/
  | orHlG (p : Reg16)
  /-- Row 401: `CP A,r`, REG `11111ppp 01100111` (R197). -/
  | cpAR (p : Reg8)
  /-- Row 402: `CP r,n`, REG `11111ppp 01101111 nnnnnnnn` (R197). -/
  | cpRN (p : Reg8) (n : Byte)
  /-- Row 403: `CP HL,gg`, REG `11111ppp 01110111` (R213). -/
  | cpHlG (p : Reg16)
  /-- Row 404: `RLC r`, REG `11111ppp 10100000` (R241). -/
  | rlcR (p : Reg8)
  /-- Row 405: `RRC r`, REG `11111ppp 10100001` (R242). -/
  | rrcR (p : Reg8)
  /-- Row 406: `RL r`, REG `11111ppp 10100010` (R243). -/
  | rlR (p : Reg8)
  /-- Row 407: `RR r`, REG `11111ppp 10100011` (R244). -/
  | rrR (p : Reg8)
  /-- Row 408: `SLA r`, REG `11111ppp 10100100` (R245). -/
  | slaR (p : Reg8)
  /-- Row 409: `SRA r`, REG `11111ppp 10100101` (R246). -/
  | sraR (p : Reg8)
  /-- Row 410: `SLL r`, REG `11111ppp 10100110` (R247). -/
  | sllR (p : Reg8)
  /-- Row 411: `SRL r`, REG `11111ppp 10100111` (R248). -/
  | srlR (p : Reg8)
  /-- Row 412: `BIT b,r`, REG `11111ppp 10101bbb` (R251). -/
  | bitR (b : BitNo) (p : Reg8)
  /-- Row 413: `RES b,r`, REG `11111ppp 10110bbb` (R253). -/
  | resR (b : BitNo) (p : Reg8)
  /-- Row 414: `SET b,r`, REG `11111ppp 10111bbb` (R252). -/
  | setR (b : BitNo) (p : Reg8)
  /-- Row 415: `RET cc`, REG `11111110 1101cccc` (R281). -/
  | retCc (cc : Cond)
deriving DecidableEq, Repr

end Sys2Proof
end

