-- ==== Sys2Proof/Machine/Flags.lean ====
section
/-! DEFINITION. The flags register F (spec 10 R28, R29, R31), the condition codes (44 R275) and every flag computation:
add and subtract (42 R185, R186, R188), logic (R187, R188), increment and decrement (R215, R216, R219, R220), decimal
adjust (R225), shifts and rotates (43 R240), digit rotates (R249), bit test (R251), carry instructions (R255 to R257) and
the block instructions (41 R170, R174). All are pure functions of operand values and the old F (42 section 1). A flag a
computation does not name keeps its value (R29): it is the record update that says so. -/

namespace Sys2Proof

/-- The eight bits of F, most significant first (R28). -/
structure Flags where
  s : Bool
  z : Bool
  i : Bool
  h : Bool
  x : Bool
  v : Bool
  n : Bool
  c : Bool
deriving DecidableEq, Repr

/-- The bits of F by name (R28). -/
def Flags.ofByte (f : Byte) : Flags where
  s := f.getLsbD 7
  z := f.getLsbD 6
  i := f.getLsbD 5
  h := f.getLsbD 4
  x := f.getLsbD 3
  v := f.getLsbD 2
  n := f.getLsbD 1
  c := f.getLsbD 0

/-- F from its bits (R28). -/
def Flags.toByte (k : Flags) : Byte :=
  BitVec.ofBool k.s ++ BitVec.ofBool k.z ++ BitVec.ofBool k.i ++ BitVec.ofBool k.h ++
    BitVec.ofBool k.x ++ BitVec.ofBool k.v ++ BitVec.ofBool k.n ++ BitVec.ofBool k.c

/-- Change bits of F by name; a bit `g` does not name is kept (R29). -/
def updateFlags (f : Byte) (g : Flags → Flags) : Byte := (g (Flags.ofByte f)).toByte

/-- `cond(cc)` of R275. -/
def Flags.cond (k : Flags) : Cond → Bool
  | .f => false
  | .lt => k.s != k.v
  | .le => k.z || (k.s != k.v)
  | .ule => k.c || k.z
  | .ov => k.v
  | .mi => k.s
  | .z => k.z
  | .c => k.c
  | .t => true
  | .ge => k.s == k.v
  | .gt => !k.z && (k.s == k.v)
  | .ugt => !k.c && !k.z
  | .nov => !k.v
  | .pl => !k.s
  | .nz => !k.z
  | .nc => !k.c

/-- `Add8` (R185) and `Add16` (R188): `w` is the width, `hb` the bit whose carry-in is H (4 or 12). The sum is exact, then
narrowed. -/
def addFlags {w : Nat} (hb : Nat) (a b : BitVec w) (cin : Bool) (f : Byte) : BitVec w × Byte :=
  let wide := a.toNat + b.toNat + cin.toNat
  let res := BitVec.ofNat w wide
  let carry := decide (2 ^ w ≤ wide)
  (res, updateFlags f fun k =>
    { k with
      s := res.msb, z := res == 0,
      h := decide (2 ^ hb ≤ a.toNat % 2 ^ hb + b.toNat % 2 ^ hb + cin.toNat),
      x := carry, v := (a.msb == b.msb) && (res.msb != a.msb), n := false, c := carry })

/-- `Sub8` (R186) and `Sub16` (R188). -/
def subFlags {w : Nat} (hb : Nat) (a b : BitVec w) (cin : Bool) (f : Byte) : BitVec w × Byte :=
  let res := a - b - BitVec.ofNat w cin.toNat
  let borrow := decide (a.toNat < b.toNat + cin.toNat)
  (res, updateFlags f fun k =>
    { k with
      s := res.msb, z := res == 0,
      h := decide (a.toNat % 2 ^ hb < b.toNat % 2 ^ hb + cin.toNat),
      x := borrow, v := (a.msb != b.msb) && (res.msb != a.msb), n := true, c := borrow })

/-- `Logic8` and `Logic16` (R187, R188): `v` is the V flag, parity for 8 bits and 0 for 16. -/
def logicFlags {w : Nat} (res : BitVec w) (h v : Bool) (f : Byte) : BitVec w × Byte :=
  (res, updateFlags f fun k =>
    { k with s := res.msb, z := res == 0, h := h, x := false, v := v, n := false, c := false })

/-- The C flag of F, the carry-in of ADC, SBC, RL, RR (R29). -/
def carryOf (f : Byte) : Bool := (Flags.ofByte f).c

/-- The eight 8-bit operations (R190 to R197): result and F. For CP the result is not to be written. -/
def alu8 (op : AluOp) (a b f : Byte) : Byte × Byte :=
  match op with
  | .add => addFlags 4 a b false f
  | .adc => addFlags 4 a b (carryOf f) f
  | .sub => subFlags 4 a b false f
  | .sbc => subFlags 4 a b (carryOf f) f
  | .and => logicFlags (a &&& b) true (parityEven (a &&& b)) f
  | .xor => logicFlags (a ^^^ b) false (parityEven (a ^^^ b)) f
  | .or => logicFlags (a ||| b) false (parityEven (a ||| b)) f
  | .cp => subFlags 4 a b false f

/-- The eight 16-bit operations (R206 to R213): result and F; for the logic operations V is cleared (R188). -/
def alu16 (op : AluOp) (a b : Word) (f : Byte) : Word × Byte :=
  match op with
  | .add => addFlags 12 a b false f
  | .adc => addFlags 12 a b (carryOf f) f
  | .sub => subFlags 12 a b false f
  | .sbc => subFlags 12 a b (carryOf f) f
  | .and => logicFlags (a &&& b) true false f
  | .xor => logicFlags (a ^^^ b) false false f
  | .or => logicFlags (a ||| b) false false f
  | .cp => subFlags 12 a b false f

/-- Every operation but CP writes its result (R189, R205). -/
def AluOp.writes (op : AluOp) : Bool := op != .cp

/-- `ADD ix,src` (R214): H, X, N, C only. -/
def addXFlags (a b : Word) (f : Byte) : Word × Byte :=
  let wide := a.toNat + b.toNat
  let carry := decide (2 ^ 16 ≤ wide)
  (BitVec.ofNat 16 wide, updateFlags f fun k =>
    { k with h := decide (2 ^ 12 ≤ a.toNat % 2 ^ 12 + b.toNat % 2 ^ 12), x := carry, n := false, c := carry })

/-- INC and INCW (R215, R219) at width `w`: C and I unchanged. -/
def incFlags {w : Nat} (hb : Nat) (a : BitVec w) (f : Byte) : BitVec w × Byte :=
  let res := a + 1
  (res, updateFlags f fun k =>
    { k with
      s := res.msb, z := res == 0, h := res.toNat % 2 ^ hb == 0, x := res == 0,
      v := res.toNat == 2 ^ (w - 1), n := false })

/-- DEC and DECW (R216, R220) at width `w`: C and I unchanged. -/
def decFlags {w : Nat} (hb : Nat) (a : BitVec w) (f : Byte) : BitVec w × Byte :=
  let res := a - 1
  (res, updateFlags f fun k =>
    { k with
      s := res.msb, z := res == 0, h := res.toNat % 2 ^ hb == 2 ^ hb - 1, x := res.toNat == 2 ^ w - 1,
      v := res.toNat == 2 ^ (w - 1) - 1, n := true })

/-- CPL (R224): H and N are set. -/
def cplFlags (f : Byte) : Byte := updateFlags f fun k => { k with h := true, n := true }

/-- The correction that DAA adds or subtracts (R225). -/
def daaDiff (a f : Byte) : Byte :=
  let k := Flags.ofByte f
  let lo := a.toNat % 16
  let hi := a.toNat / 16
  if k.c then (if lo ≤ 9 ∧ k.h = false then 0x60 else 0x66)
  else if 10 ≤ lo then (if hi ≤ 8 then 0x06 else 0x66)
  else if 10 ≤ hi then (if k.h then 0x66 else 0x60)
  else (if k.h then 0x06 else 0x00)

/-- DAA (R225): N and I unchanged. -/
def daaFlags (a f : Byte) : Byte × Byte :=
  let k := Flags.ofByte f
  let lo := a.toNat % 16
  let hi := a.toNat / 16
  let diff := daaDiff a f
  let res := if k.n then a - diff else a + diff
  let newC := k.c || (if lo ≤ 9 then decide (10 ≤ hi) else decide (9 ≤ hi))
  let newH := if k.n then k.h && decide (lo ≤ 5) else decide (10 ≤ lo)
  (res, updateFlags f fun k =>
    { k with s := res.msb, z := res == 0, h := newH, x := newC, v := parityEven res, c := newC })

/-- The result of a shift or rotate by one and the bit shifted out (R240); `c` is F.C before. -/
def rotate (op : RotOp) (v : Byte) (c : Bool) : Byte × Bool :=
  let top := v.getLsbD 7
  let bottom := v.getLsbD 0
  let low7 : BitVec 7 := v.extractLsb' 0 7
  let high7 : BitVec 7 := v.extractLsb' 1 7
  match op with
  | .rlc => (low7 ++ BitVec.ofBool top, top)
  | .rrc => (BitVec.ofBool bottom ++ high7, bottom)
  | .rl => (low7 ++ BitVec.ofBool c, top)
  | .rr => (BitVec.ofBool c ++ high7, bottom)
  | .sla => (low7 ++ BitVec.ofBool false, top)
  | .sra => (BitVec.ofBool top ++ high7, bottom)
  | .sll => (low7 ++ BitVec.ofBool false, top)
  | .srl => (BitVec.ofBool false ++ high7, bottom)

/-- `ROT r` and `ROT (m)` (R240): every flag but I is written. -/
def rotFlags (op : RotOp) (v f : Byte) : Byte × Byte :=
  let r := rotate op v (carryOf f)
  (r.1, updateFlags f fun k =>
    { k with
      s := r.1.msb, z := r.1 == 0, h := false, x := r.2, v := parityEven r.1, n := false, c := r.2 })

/-- The one-byte A forms RLCA … SRLA (R240): S, Z, V, I unchanged. -/
def rotAFlags (op : RotOp) (v f : Byte) : Byte × Byte :=
  let r := rotate op v (carryOf f)
  (r.1, updateFlags f fun k => { k with h := false, x := r.2, n := false, c := r.2 })

/-- RLD and RRD (R249, R250): flags of the new A; C, X, I unchanged. -/
def digitFlags (a f : Byte) : Byte :=
  updateFlags f fun k => { k with s := a.msb, z := a == 0, h := false, v := parityEven a, n := false }

/-- BIT and TSET (R251): Z is the complement of the tested bit, H = 1, N = 0; X, C, I unchanged. S and V are `fs` and
`fv`: R251 and U4 say to treat them as unspecified, and the caller gives two free values (log entry 5). -/
def bitFlags (v : Byte) (b : BitNo) (fs fv : Bool) (f : Byte) : Byte :=
  updateFlags f fun k => { k with s := fs, z := !v.getLsbD b.toNat, h := true, v := fv, n := false }

/-- RCF (R255). -/
def rcfFlags (f : Byte) : Byte := updateFlags f fun k => { k with h := false, x := false, n := false, c := false }

/-- SCF (R256). -/
def scfFlags (f : Byte) : Byte := updateFlags f fun k => { k with h := false, x := true, n := false, c := true }

/-- CCF (R257): H takes the old C. -/
def ccfFlags (f : Byte) : Byte := updateFlags f fun k => { k with h := k.c, x := !k.c, n := false, c := !k.c }

/-- LDI, LDD and their repeating forms (R170): H, N, V; `more` says that BC is not 0 after the decrement. -/
def ldiFlags (more : Bool) (f : Byte) : Byte := updateFlags f fun k => { k with h := false, v := more, n := false }

/-- CPI, CPD and their repeating forms (R174): S, Z, H, N, V of A - m; C, X, I unchanged. -/
def cpiFlags (a m : Byte) (more : Bool) (f : Byte) : Byte :=
  let res := a - m
  updateFlags f fun k =>
    { k with s := res.msb, z := res == 0, h := decide (a.toNat % 16 < m.toNat % 16), v := more, n := true }

/-- DIV (R227): V only. -/
def divFlags (v : Bool) (f : Byte) : Byte := updateFlags f fun k => { k with v := v }

/-- Set F.I (R30). -/
def setI (on : Bool) (f : Byte) : Byte := updateFlags f fun k => { k with i := on }

end Sys2Proof
end

