-- ==== Sys2Proof/Config.lean ====
section
/-! DEFINITION. The named parameters of spec 00 R6 as plain data, and the free values of the model.

R6 makes the parameters arguments of the model. `exec` and `step` have a fixed form, so the parameters stand in the
state as one field `State.cfg` that no step changes; a statement about every state is a statement about every value of
the parameters, and `State.reset` holds the defaults of R6 (log entry 3). `PORT_DEFAULT` is `portDefault`. `MEM` is
an argument too: `memMap` says of every address whether the adapter keeps its bytes, only answers them, or has a device
there; its bytes and a device's answers stand in the state (log entry 16).

FREE VALUES are the `opaque` constants below: they have no body, so nothing can be proved of the value of one. -/

namespace Sys2Proof

/-- FREE VALUE (log entry 5): flags S and V after BIT and TSET (43 R251, 93 U4), one fresh value per counter value. -/
opaque Config.freeFlag : Nat → Bool

/-- FREE VALUE (log entry 7): what the adapter answers at an address whose byte the state does not list (20 R75, 93 U7). -/
opaque Config.memByte : Nat → Byte

/-- FREE VALUE (log entry 16): what a device behind the adapter answers when the state lists no answer for it (20 R71); the
first argument is the address, the second how many callbacks were made before. -/
opaque Config.busAnswer : Nat → Nat → Byte

/-- FREE VALUE (log entry 8): what a connected port answers when the state lists no answer for it (10 R50); the first
argument is the port, the second how many callbacks were made before. -/
opaque Config.portAnswer : Nat → Nat → Byte

/-- FREE VALUE (log entry 4): a `DIV0` other than the default, one function for each index (42 R227, 92 D12). -/
opaque Config.div0Other : Nat → Word → Word

/-- FREE VALUE (log entry 6): a `CYC` other than the default, one table for each index: table row and outcome to cycles
less one (70 R395, 92 D30). -/
opaque Config.cycOther : Nat → Nat → Bool → Nat

/-- A positive cycle cost (R6: `INT_COST` and `UNKNOWN_COST` are positive integers). -/
abbrev Cycles := { n : Nat // 0 < n }

/-- The parameter `DIV0` (R6): the spec's default, or any other function. -/
inductive Div0 where
  | spec
  | other (k : Nat)
deriving DecidableEq, Repr

/-- The parameter `CYC` (R6, R395): the costs of spec/opcode_table.json, or any other positive table. -/
inductive CycTable where
  | spec
  | other (k : Nat)
deriving DecidableEq, Repr

/-- What `MEM` does at an address (20 R60, R71, R75). -/
inductive MemKind where
  /-- It keeps what is written and answers it. -/
  | plain
  /-- It answers its byte and drops writes. -/
  | readOnly
  /-- A device: every access is a call with effects of its own, and no answer is assumed to repeat another. -/
  | device
deriving DecidableEq, Repr

/-- A stretch of the 20-bit address space with one kind. -/
structure MemRegion where
  base : Nat
  size : Nat
  kind : MemKind
deriving DecidableEq, Repr

/-- The parameters of R6. -/
structure Params where
  /-- `CYC`. -/
  cyc : CycTable
  /-- `INT_COST`. -/
  intCost : Cycles
  /-- `UNKNOWN_COST`. -/
  unknownCost : Cycles
  /-- `REL16_BIAS`: false is 0, true is -1. -/
  rel16Minus1 : Bool
  /-- `NM_FRAME_HAS_AF`. -/
  nmFrameHasAf : Bool
  /-- `DIV0`. -/
  div0 : Div0
  /-- `CHAIN_A`. -/
  chainA : Fin 4
  /-- `CHAIN_B`. -/
  chainB : Fin 4
  /-- `PORT_DEFAULT`. -/
  portDefault : Byte
  /-- `MEM`: the stretches that are not plain; the first that holds an address counts, and an address in none is plain. -/
  memMap : List MemRegion
deriving DecidableEq, Repr

/-- The defaults of R6. -/
def Params.default : Params where
  cyc := .spec
  intCost := ⟨20, by decide⟩
  unknownCost := ⟨2, by decide⟩
  rel16Minus1 := false
  nmFrameHasAf := false
  div0 := .spec
  chainA := 1
  chainB := 3
  portDefault := 0xFF
  memMap := []

end Sys2Proof
end

