-- ==== Sys2Proof/Machine/State.lean ====
section
/-! DEFINITION. The state of the core as plain data (spec 10 R46), the reasons a step could stop, and the state after
reset (10 R52). The fields `mem`, `busAnswers` and `ports` stand for what is behind the memory and port adapter (20 R60, R76);
`callLog`, `cost`, `freeCount` and `cfg` are the MODEL's own (INVENTORY.md, State). -/

namespace Sys2Proof.Machine

/-- Why a step could stop with a fault. THE TYPE IS EMPTY: the core has no synchronous fault (60 R310), so no step of
this model faults. -/
inductive Fault where
deriving DecidableEq, Repr

/-- Why a step could be refused. No step of this model is refused. -/
inductive Refusal where
  /-- Raised by an arm of `exec` whose instruction has no meaning yet, with its mnemonic; no arm raises it. Safe. -/
  | notModelled (mnemonic : String)
deriving DecidableEq, Repr

/-- The memory behind the adapter (20 R60): the listed bytes by 20-bit address; an unlisted address
answers `Memory.unlisted`. The canonical form is `Memory.wf` (Machine/Ops.lean). -/
structure Memory where
  cells : List Host.Cell
deriving DecidableEq, Repr

/-- One bank of BC, DE, HL (10 R21, R22). -/
structure GenBank where
  bc : Word
  de : Word
  hl : Word
deriving DecidableEq, Repr

/-- An 8-bit timer, 0..3 (10 R39). -/
structure Timer8 where
  mode : BitVec 2
  clk : BitVec 2
  run : Bool
  reload : Byte
  count : Byte
  presc : BitVec 9
deriving DecidableEq, Repr

/-- The 16-bit timer 4 (10 R39). -/
structure Timer16 where
  mode : BitVec 2
  clk : BitVec 3
  run : Bool
  reload : Word
  count : Word
  presc : BitVec 9
deriving DecidableEq, Repr

/-- What stands behind a port (20 R76): nothing, or a callback. Its answers are an input of the machine: the bytes it
will answer next, in order; past the list its answer is a free value. -/
inductive PortWire where
  | unconnected
  | connected (answers : List Byte)
deriving DecidableEq, Repr

/-- One callback with effects outside the core: of a connected port, `read_port(n)` with its answer or `write_port(n, v)`
(20 R76); of a device behind the adapter, `MEM.read8(addr)` with its answer or `MEM.write8(addr, v)` (20 R60, R71). -/
inductive CallEvent where
  | portRead (port : Fin 9) (v : Byte)
  | portWrite (port : Fin 9) (v : Byte)
  | memRead (addr : Addr) (v : Byte)
  | memWrite (addr : Addr) (v : Byte)
deriving DecidableEq, Repr

/-- The complete state (10 R46), with the environment of 20 R60 and R76 and the model's own fields. -/
structure State where
  /-- General bank 0: BC, DE, HL (R22). -/
  gbank0 : GenBank
  /-- General bank 1 (R22). -/
  gbank1 : GenBank
  /-- `gsel`: which general bank is active (R22); false is 0. -/
  gsel : Bool
  /-- AF bank 0 (R23): A in the high half, F in the low half. -/
  afbank0 : Word
  /-- AF bank 1 (R23). -/
  afbank1 : Word
  /-- `asel`: which AF bank is active (R23); false is 0. -/
  asel : Bool
  /-- IX (R25). -/
  ix : Word
  /-- IY (R25). -/
  iy : Word
  /-- SP (R26). -/
  sp : Word
  /-- PC (R27). -/
  pc : Word
  /-- `halted` (R34). -/
  halted : Bool
  /-- `after_ei` (R35). -/
  afterEi : Bool
  /-- `residual` (R36). -/
  residual : Nat
  /-- `pending`, the request latches of sources 13..0 (R38). -/
  pending : BitVec 14
  /-- `mask` (R38). -/
  mask : BitVec 14
  /-- `line` (R38). -/
  line : BitVec 14
  /-- Timer 0 (R39). -/
  t0 : Timer8
  /-- Timer 1 (R39). -/
  t1 : Timer8
  /-- Timer 2 (R39). -/
  t2 : Timer8
  /-- Timer 3 (R39). -/
  t3 : Timer8
  /-- Timer 4 (R39). -/
  t4 : Timer16
  /-- `BX` (R40). -/
  bankX : BitVec 4
  /-- `BY` (R40). -/
  bankY : BitVec 4
  /-- The memory behind the adapter (20 R60). -/
  mem : Memory
  /-- What the devices behind the adapter will answer next, in the order of the reads (20 R71). -/
  busAnswers : List Byte
  /-- What stands behind the nine ports (20 R76). -/
  ports : Vector PortWire 9
  /-- MODEL: the callbacks made so far, of ports and of devices behind the adapter, newest first. -/
  callLog : List CallEvent
  /-- MODEL: the cycle cost the last step reported (00 section 4.2, `cost <- n`). -/
  cost : Nat
  /-- MODEL: how many free values were taken (log entry 5). -/
  freeCount : Nat
  /-- MODEL: the parameters of 00 R6, which no step changes (log entry 3). -/
  cfg : Params
deriving DecidableEq, Repr

/-- A stopped, cleared 8-bit timer (R52). -/
def Timer8.reset : Timer8 := ⟨0, 0, false, 0, 0, 0⟩

/-- A stopped, cleared 16-bit timer (R52). -/
def Timer16.reset : Timer16 := ⟨0, 0, false, 0, 0, 0⟩

/-- The machine right after reset (10 R52, 70 R380), its memory with nothing listed, no port connected, and the
parameters at the defaults of 00 R6, the adapter plain everywhere. -/
def State.reset : State where
  gbank0 := ⟨0, 0, 0⟩
  gbank1 := ⟨0, 0, 0⟩
  gsel := false
  afbank0 := 0
  afbank1 := 0
  asel := false
  ix := 0
  iy := 0
  sp := 0
  pc := 0
  halted := false
  afterEi := false
  residual := 0
  pending := 0
  mask := 0
  line := 0
  t0 := Timer8.reset
  t1 := Timer8.reset
  t2 := Timer8.reset
  t3 := Timer8.reset
  t4 := Timer16.reset
  bankX := 0
  bankY := 0
  mem := ⟨[]⟩
  busAnswers := []
  ports := Vector.replicate 9 .unconnected
  callLog := []
  cost := 0
  freeCount := 0
  cfg := Params.default

end Sys2Proof.Machine
end

