-- ==== Sys2Proof/Machine/Timers.lean ====
section
/-! DEFINITION. The timers (spec 60 R340 to R350): tick, chain, prescaler, start and stop, and the advance by the cycles
of a step (R342). -/

namespace Sys2Proof.Machine

/-- Timer i of 0..3. -/
def State.timer8 (s : State) : Fin 4 → Timer8
  | 0 => s.t0
  | 1 => s.t1
  | 2 => s.t2
  | 3 => s.t3

/-- Replace timer i of 0..3. -/
def State.setTimer8 (s : State) (i : Fin 4) (t : Timer8) : State :=
  { s with
    t0 := if i = 0 then t else s.t0
    t1 := if i = 1 then t else s.t1
    t2 := if i = 2 then t else s.t2
    t3 := if i = 3 then t else s.t3 }

/-- Replace timer 4. -/
def State.setTimer16 (s : State) (t : Timer16) : State := { s with t4 := t }

/-- Replace the request latches. -/
def State.setPending (s : State) (p : BitVec 14) : State := { s with pending := p }

/-- `pending[i] <- 1` (R316). -/
def raiseRequest (i : Nat) (s : State) : State := s.setPending (s.pending ||| (1#14 <<< i))

/-- `ratio(clk)` of R343 for the clock codes 1, 2, 3. -/
def ratio (clk : Nat) : Nat :=
  match clk with
  | 2 => 16
  | 3 => 256
  | _ => 1

/-- `Tick(i)` of an 8-bit timer (R345) on the timer alone: the timer after, and whether the event was terminal. -/
def tick8 (t : Timer8) : Timer8 × Bool :=
  if t.mode = 2 then
    if t.count + 1 = t.reload then ({ t with count := 0 }, true) else ({ t with count := t.count + 1 }, false)
  else if t.mode = 3 then (t, false)
  else if t.count = 0 then ({ t with count := t.reload, run := t.run && t.mode != 1 }, true)
  else ({ t with count := t.count - 1 }, false)

/-- `Tick(4)` (R345) on the timer alone. -/
def tick16 (t : Timer16) : Timer16 × Bool :=
  if t.mode = 2 then
    if t.count + 1 = t.reload then ({ t with count := 0 }, true) else ({ t with count := t.count + 1 }, false)
  else if t.mode = 3 then (t, false)
  else if t.count = 0 then ({ t with count := t.reload, run := t.run && t.mode != 1 }, true)
  else ({ t with count := t.count - 1 }, false)

/-- `Tick(4)` (R345): a terminal event sets request 8. -/
def tickTimer16 (s : State) : State :=
  let r := tick16 s.t4
  let s1 := s.setTimer16 r.1
  if r.2 then raiseRequest 8 s1 else s1

/-- `Chain(i)` (R349): timer 4 counts the terminal events of timer `CHAIN_A` or `CHAIN_B`. -/
def chain (i : Fin 4) (s : State) : State :=
  if s.t4.run && ((s.t4.clk == 4 && i == s.cfg.chainA) || (s.t4.clk == 5 && i == s.cfg.chainB)) then tickTimer16 s
  else s

/-- `Tick(i)` of an 8-bit timer (R345) and, on a terminal event, its request 4 + i and `Chain(i)` (R349). -/
def tickTimer8 (i : Fin 4) (s : State) : State :=
  let r := tick8 (s.timer8 i)
  let s1 := s.setTimer8 i r.1
  if r.2 then chain i (raiseRequest (4 + i.val) s1) else s1

/-- One cycle of timer i of 0..3 (R342): it counts its prescaler when running on clock 1, 2 or 3. -/
def cycleTimer8 (i : Fin 4) (s : State) : State :=
  let t := s.timer8 i
  if t.run && t.clk != 0 then
    if ratio t.clk.toNat ≤ t.presc.toNat + 1 then tickTimer8 i (s.setTimer8 i { t with presc := 0 })
    else s.setTimer8 i { t with presc := t.presc + 1 }
  else s

/-- One cycle of timer 4 (R342): clock codes 1, 2, 3; codes 4 to 7 take no cycle (R343). -/
def cycleTimer16 (s : State) : State :=
  let t := s.t4
  if t.run && t.clk != 0 && decide (t.clk.toNat ≤ 3) then
    if ratio t.clk.toNat ≤ t.presc.toNat + 1 then tickTimer16 (s.setTimer16 { t with presc := 0 })
    else s.setTimer16 { t with presc := t.presc + 1 }
  else s

/-- One cycle of all timers, in the order 0, 1, 2, 3, 4 (R342). -/
def advanceCycle (s : State) : State :=
  cycleTimer16 (cycleTimer8 3 (cycleTimer8 2 (cycleTimer8 1 (cycleTimer8 0 s))))

/-- `AdvanceTimers(n)` (R342), cycle by cycle. -/
def advanceTimers : Nat → State → State
  | 0, s => s
  | n + 1, s => advanceTimers n (advanceCycle s)

/-- A write of bit `v` of TRUN to an 8-bit timer (R341): a start reloads and clears the prescaler, a stop keeps both. -/
def startStop8 (v : Bool) (t : Timer8) : Timer8 :=
  if v && !t.run then { t with count := if t.mode = 2 then 0 else t.reload, presc := 0, run := true }
  else { t with run := v }

/-- A write of bit 4 of TRUN to timer 4 (R341). -/
def startStop16 (v : Bool) (t : Timer16) : Timer16 :=
  if v && !t.run then { t with count := if t.mode = 2 then 0 else t.reload, presc := 0, run := true }
  else { t with run := v }

/-- A write of `v` to TRUN (R341). -/
def writeTrun (v : Byte) (s : State) : State :=
  { s with
    t0 := startStop8 (v.getLsbD 0) s.t0
    t1 := startStop8 (v.getLsbD 1) s.t1
    t2 := startStop8 (v.getLsbD 2) s.t2
    t3 := startStop8 (v.getLsbD 3) s.t3
    t4 := startStop16 (v.getLsbD 4) s.t4 }

end Sys2Proof.Machine
end

