-- ==== Sys2Proof/Machine/Ops.lean ====
section
/-! DEFINITION. The named operations over registers, memory, ports and control registers (spec 10 R20 to R51, 20 R60 to
R76), the stack (20 R72), TAKING AN INTERRUPT (60 R325) and the return from one (44 R282), and the ends of a meaning. -/

namespace Sys2Proof.Machine

/-! ### Registers through the active bank (R22 to R27) -/

/-- `gbank[gsel]` (R22). -/
def State.gen (s : State) : GenBank := if s.gsel then s.gbank1 else s.gbank0

/-- `gbank[1 - gsel]` (R22): BC', DE', HL'. -/
def State.genShadow (s : State) : GenBank := if s.gsel then s.gbank0 else s.gbank1

/-- `afbank[asel]` (R23). -/
def State.af (s : State) : Word := if s.asel then s.afbank1 else s.afbank0

/-- `afbank[1 - asel]` (R23): AF'. -/
def State.afShadow (s : State) : Word := if s.asel then s.afbank0 else s.afbank1

/-- Replace the active general bank. -/
def State.setGen (s : State) (g : GenBank) : State :=
  { s with gbank0 := if s.gsel then s.gbank0 else g, gbank1 := if s.gsel then g else s.gbank1 }

/-- Replace AF. -/
def State.setAf (s : State) (w : Word) : State :=
  { s with afbank0 := if s.asel then s.afbank0 else w, afbank1 := if s.asel then w else s.afbank1 }

/-- `gsel <- 1 - gsel` (40 R147). -/
def State.swapGen (s : State) : State := { s with gsel := !s.gsel }

/-- `asel <- 1 - asel` (40 R146). -/
def State.swapAf (s : State) : State := { s with asel := !s.asel }

/-- Replace IX. -/
def State.setIx (s : State) (w : Word) : State := { s with ix := w }

/-- Replace IY. -/
def State.setIy (s : State) (w : Word) : State := { s with iy := w }

/-- Replace SP. -/
def State.setSp (s : State) (w : Word) : State := { s with sp := w }

/-- `pc <- w`. -/
def State.setPc (s : State) (w : Word) : State := { s with pc := w }

/-- Replace `halted` (R34). -/
def State.setHalted (s : State) (b : Bool) : State := { s with halted := b }

/-- Replace `after_ei` (R35). -/
def State.setAfterEi (s : State) (b : Bool) : State := { s with afterEi := b }

/-- Replace `mask` (R38). -/
def State.setMask (s : State) (m : BitVec 14) : State := { s with mask := m }

/-- Replace `BX` (R40). -/
def State.setBankX (s : State) (v : BitVec 4) : State := { s with bankX := v }

/-- Replace `BY` (R40). -/
def State.setBankY (s : State) (v : BitVec 4) : State := { s with bankY := v }

/-- Replace the memory behind the adapter. -/
def State.setMem (s : State) (m : Memory) : State := { s with mem := m }

/-- What one call of a device behind the adapter leaves: the remaining answers and the call in the log. -/
def State.busCall (s : State) (answers : List Byte) (e : CallEvent) : State :=
  { s with busAnswers := answers, callLog := e :: s.callLog }

/-- What one port callback leaves: the port's remaining answers and the call in the log. -/
def State.portCall (s : State) (n : Fin 9) (w : PortWire) (e : CallEvent) : State :=
  { s with ports := s.ports.set n.val w, callLog := e :: s.callLog }

/-- `cost <- n`. -/
def State.setCost (s : State) (n : Nat) : State := { s with cost := n }

/-- One free value was taken. -/
def State.takeFree (s : State) : State := { s with freeCount := s.freeCount + 1 }

/-- F, the low half of AF (R23). -/
def State.f (s : State) : Byte := loByte s.af

/-- `r8[r]` (R21, R24). -/
def State.get8 (s : State) : Reg8 → Byte
  | .b => hiByte s.gen.bc
  | .c => loByte s.gen.bc
  | .d => hiByte s.gen.de
  | .e => loByte s.gen.de
  | .h => hiByte s.gen.hl
  | .l => loByte s.gen.hl
  | .a => hiByte s.af

/-- `r8[r] <- v`: the other half keeps its value (R21). -/
def State.set8 (s : State) (r : Reg8) (v : Byte) : State :=
  match r with
  | .b => s.setGen { s.gen with bc := joinBytes v (loByte s.gen.bc) }
  | .c => s.setGen { s.gen with bc := joinBytes (hiByte s.gen.bc) v }
  | .d => s.setGen { s.gen with de := joinBytes v (loByte s.gen.de) }
  | .e => s.setGen { s.gen with de := joinBytes (hiByte s.gen.de) v }
  | .h => s.setGen { s.gen with hl := joinBytes v (loByte s.gen.hl) }
  | .l => s.setGen { s.gen with hl := joinBytes (hiByte s.gen.hl) v }
  | .a => s.setAf (joinBytes v (loByte s.af))

/-- `F <- f`: A keeps its value. -/
def State.setF (s : State) (f : Byte) : State := s.setAf (joinBytes (hiByte s.af) f)

/-- `r16[gg]` (R24 to R26). -/
def State.get16 (s : State) : Reg16 → Word
  | .bc => s.gen.bc
  | .de => s.gen.de
  | .hl => s.gen.hl
  | .ix => s.ix
  | .iy => s.iy
  | .sp => s.sp

/-- `r16[gg] <- w`. -/
def State.set16 (s : State) (g : Reg16) (w : Word) : State :=
  match g with
  | .bc => s.setGen { s.gen with bc := w }
  | .de => s.setGen { s.gen with de := w }
  | .hl => s.setGen { s.gen with hl := w }
  | .ix => s.setIx w
  | .iy => s.setIy w
  | .sp => s.setSp w

/-- `r16[qq]` (R32). -/
def State.getQ (s : State) : RegQ → Word
  | .bc => s.gen.bc
  | .de => s.gen.de
  | .hl => s.gen.hl
  | .ix => s.ix
  | .iy => s.iy
  | .af => s.af

/-- `r16[qq] <- w` (R32); for AF all of F is replaced, I with it (R30). -/
def State.setQ (s : State) (q : RegQ) (w : Word) : State :=
  match q with
  | .bc => s.setGen { s.gen with bc := w }
  | .de => s.setGen { s.gen with de := w }
  | .hl => s.setGen { s.gen with hl := w }
  | .ix => s.setIx w
  | .iy => s.setIy w
  | .af => s.setAf w

/-- An `ix` register as a `gg` register (R32). -/
def RegX.reg16 : RegX → Reg16
  | .ix => .ix
  | .iy => .iy
  | .sp => .sp

/-! ### The memory behind the adapter (R60) -/

/-- What an unlisted address answers: a free value (R75; log entry 7). -/
def Memory.unlisted (a : Nat) : Byte := Config.memByte a

/-- The byte listed for an address. -/
def readCells : List Host.Cell → Nat → Byte
  | [], a => Memory.unlisted a
  | (k, v) :: rest, a => if a = k then v else readCells rest a

/-- List a byte, keeping the canonical form. No byte equals an unlisted one: an unlisted address has no value of its own. -/
def writeCells : List Host.Cell → Nat → Byte → List Host.Cell
  | [], a, v => [(a, v)]
  | (k, w) :: rest, a, v =>
    if a < k then (a, v) :: (k, w) :: rest
    else if a = k then (a, v) :: rest
    else (k, w) :: writeCells rest a v

/-- Addresses strictly rising from `lo` on and below 2^20. -/
def cellsWf : Nat → List Host.Cell → Bool
  | _, [] => true
  | lo, (k, _) :: rest => decide (lo ≤ k) && decide (k < 2 ^ 20) && cellsWf (k + 1) rest

/-- The byte an address holds. -/
def Memory.read (m : Memory) (a : Addr) : Byte := readCells m.cells a.toNat

/-- An address takes a byte. -/
def Memory.write (m : Memory) (a : Addr) (v : Byte) : Memory := ⟨writeCells m.cells a.toNat v⟩

/-- The canonical form: memories that list the same bytes are equal lists. -/
def Memory.wf (m : Memory) : Bool := cellsWf 0 m.cells

/-! ### The adapter (R60, R71, R75) -/

/-- The kind of an address in a map. -/
def kindIn : List MemRegion → Nat → MemKind
  | [], _ => .plain
  | r :: rest, a => if r.base ≤ a ∧ a < r.base + r.size then r.kind else kindIn rest a

/-- What `MEM` does at an address. -/
def State.memKind (s : State) (a : Addr) : MemKind := kindIn s.cfg.memMap a.toNat

/-- `MEM.read8(a)`: the byte the address holds, or a device's answer, which uses the call up. -/
def memRead8 (a : Addr) (s : State) : Byte × State :=
  match s.memKind a with
  | .device =>
    match s.busAnswers with
    | [] =>
      let v := Config.busAnswer a.toNat s.callLog.length
      (v, s.busCall [] (.memRead a v))
    | v :: rest => (v, s.busCall rest (.memRead a v))
  | _ => (s.mem.read a, s)

/-- `MEM.write8(a, v)`: kept, dropped, or a call of a device. -/
def memWrite8 (a : Addr) (v : Byte) (s : State) : State :=
  match s.memKind a with
  | .plain => s.setMem (s.mem.write a v)
  | .readOnly => s
  | .device => s.busCall s.busAnswers (.memWrite a v)

/-! ### Ports (R76, 10 R50, 60 R355) -/

/-- `read_port(n)`: `PORT_DEFAULT` when unconnected, else the callback's answer. -/
def readPort (n : Fin 9) (s : State) : Byte × State :=
  match s.ports[n] with
  | .unconnected => (s.cfg.portDefault, s)
  | .connected [] =>
    let v := Config.portAnswer n.val s.callLog.length
    (v, s.portCall n (.connected []) (.portRead n v))
  | .connected (v :: rest) => (v, s.portCall n (.connected rest) (.portRead n v))

/-- `write_port(n, v)`: dropped when unconnected. -/
def writePort (n : Fin 9) (v : Byte) (s : State) : State :=
  match s.ports[n] with
  | .unconnected => s
  | .connected answers => s.portCall n (.connected answers) (.portWrite n v)

/-! ### Interrupt requests (60 R315) -/

/-- `req`: the line for source 3, the latch for the others, never source 0 (R315). -/
def State.req (s : State) : BitVec 14 := (s.pending &&& 0x3FF6#14) ||| (s.line &&& 0x0008#14)

/-! ### Memory-mapped control registers (10 R41 to R51) -/

/-- The claimed registers (R41, R63). -/
inductive IoReg where
  | port (n : Fin 9)
  | irfl
  | irfh
  | treg (i : Fin 4)
  | tclk
  | tmod
  | trun
  | treg4l
  | treg4h
  | t4mod
  | intel
  | inteh
  | bx
  | bankY
deriving DecidableEq, Repr

/-- The claimed addresses (R41, R63), in bank 0 only; the list of R41 has 25 addresses (log entry 2). -/
def claimed (a : Addr) : Option IoReg :=
  match a.toNat with
  | 0xFFC0 => some (.port 0)
  | 0xFFC1 => some (.port 1)
  | 0xFFC2 => some .irfl
  | 0xFFC3 => some .irfh
  | 0xFFC4 => some (.port 2)
  | 0xFFC6 => some (.port 3)
  | 0xFFC8 => some (.port 4)
  | 0xFFCA => some (.port 5)
  | 0xFFCC => some (.port 6)
  | 0xFFCD => some (.port 7)
  | 0xFFD0 => some (.port 8)
  | 0xFFD4 => some (.treg 0)
  | 0xFFD5 => some (.treg 1)
  | 0xFFD6 => some (.treg 2)
  | 0xFFD7 => some (.treg 3)
  | 0xFFD8 => some .tclk
  | 0xFFDA => some .tmod
  | 0xFFDB => some .trun
  | 0xFFE0 => some .treg4l
  | 0xFFE1 => some .treg4h
  | 0xFFE4 => some .t4mod
  | 0xFFE6 => some .intel
  | 0xFFE7 => some .inteh
  | 0xFFEC => some .bx
  | 0xFFED => some .bankY
  | _ => none

/-- A read of a claimed register (R42 to R51). Reserved bits read 0. -/
def ioRead (r : IoReg) (s : State) : Byte × State :=
  match r with
  | .port n => readPort n s
  | .irfl => (s.req.extractLsb' 0 8, s)
  | .irfh => (0#2 ++ s.req.extractLsb' 8 6, s)
  | .treg i => ((s.timer8 i).reload, s)
  | .tclk => (s.t3.clk ++ s.t2.clk ++ s.t1.clk ++ s.t0.clk, s)
  | .tmod => (s.t3.mode ++ s.t2.mode ++ s.t1.mode ++ s.t0.mode, s)
  | .trun =>
    (0#3 ++ BitVec.ofBool s.t4.run ++ BitVec.ofBool s.t3.run ++ BitVec.ofBool s.t2.run ++ BitVec.ofBool s.t1.run ++
      BitVec.ofBool s.t0.run, s)
  | .treg4l => (loByte s.t4.reload, s)
  | .treg4h => (hiByte s.t4.reload, s)
  | .t4mod => (0#2 ++ s.t4.mode ++ 0#1 ++ s.t4.clk, s)
  | .intel => (s.mask.extractLsb' 3 5 ++ 0#3, s)
  | .inteh => (0#2 ++ s.mask.extractLsb' 8 6, s)
  | .bx => (0#4 ++ s.bankX, s)
  | .bankY => (0#4 ++ s.bankY, s)

/-- A write of a claimed register (R42 to R51, 60 R341). Reserved bits are ignored; a 1 written to IRFL or IRFH clears the
latch of that source, but for the level-triggered source 3 (R48). -/
def ioWrite (r : IoReg) (v : Byte) (s : State) : State :=
  match r with
  | .port n => writePort n v s
  | .irfl => s.setPending (s.pending &&& ~~~(0#6 ++ (v &&& 0xF7#8)))
  | .irfh => s.setPending (s.pending &&& ~~~(v.extractLsb' 0 6 ++ 0#8))
  | .treg i => s.setTimer8 i { s.timer8 i with reload := v }
  | .tclk =>
    { s with
      t0 := { s.t0 with clk := v.extractLsb' 0 2 }, t1 := { s.t1 with clk := v.extractLsb' 2 2 },
      t2 := { s.t2 with clk := v.extractLsb' 4 2 }, t3 := { s.t3 with clk := v.extractLsb' 6 2 } }
  | .tmod =>
    { s with
      t0 := { s.t0 with mode := v.extractLsb' 0 2 }, t1 := { s.t1 with mode := v.extractLsb' 2 2 },
      t2 := { s.t2 with mode := v.extractLsb' 4 2 }, t3 := { s.t3 with mode := v.extractLsb' 6 2 } }
  | .trun => writeTrun v s
  | .treg4l => s.setTimer16 { s.t4 with reload := joinBytes (hiByte s.t4.reload) v }
  | .treg4h => s.setTimer16 { s.t4 with reload := joinBytes v (loByte s.t4.reload) }
  | .t4mod => s.setTimer16 { s.t4 with clk := v.extractLsb' 0 3, mode := v.extractLsb' 4 2 }
  | .intel => s.setMask (s.mask.extractLsb' 8 6 ++ v.extractLsb' 3 5 ++ 0#3)
  | .inteh => s.setMask (v.extractLsb' 0 6 ++ s.mask.extractLsb' 0 8)
  | .bx => s.setBankX (v.extractLsb' 0 4)
  | .bankY => s.setBankY (v.extractLsb' 0 4)

/-! ### The access router (R62, R65) -/

/-- `MemRead(addr, 1)` (R62). -/
def read8 (a : Addr) (s : State) : Byte × State :=
  match claimed a with
  | some r => ioRead r s
  | none => memRead8 a s

/-- `MemWrite(addr, 1, v)` (R62). -/
def write8 (a : Addr) (v : Byte) (s : State) : State :=
  match claimed a with
  | some r => ioWrite r v s
  | none => memWrite8 a v s

/-- A read of this address is a read of memory and no call. -/
def State.holdsByte (s : State) (a : Addr) : Bool := (claimed a).isNone && s.memKind a != .device

/-- A byte written to this address is kept. -/
def State.keepsByte (s : State) (a : Addr) : Bool := (claimed a).isNone && s.memKind a == .plain

/-- `MemRead(addr, 2)` (R65): the low byte first. -/
def read16 (a : Addr) (s : State) : Word × State :=
  let lo := read8 a s
  let hi := read8 (nextAddr a) lo.2
  (joinBytes hi.1 lo.1, hi.2)

/-- `MemWrite(addr, 2, v)` (R65): the low byte first. -/
def write16 (a : Addr) (v : Word) (s : State) : State :=
  write8 (nextAddr a) (hiByte v) (write8 a (loByte v) s)

/-! ### The stack (R72) -/

/-- `Push16(v)`. -/
def push16 (v : Word) (s : State) : State := write16 (bank0 (s.sp - 2)) v (s.setSp (s.sp - 2))

/-- `Pop16()`. -/
def pop16 (s : State) : Word × State :=
  let r := read16 (bank0 s.sp) s
  (r.1, r.2.setSp (r.2.sp + 2))

/-! ### Taking an interrupt, and the return from one -/

/-- The entry address of source i: 0x0010 + 8 i (R79). -/
def entryAddress (i : Fin 14) : Word := BitVec.ofNat 16 (0x10 + 8 * i.val)

/-- What acceptance pushes (R325): the return address, and AF for a source with a mask bit or with `NM_FRAME_HAS_AF`. -/
def pushFrame (i : Fin 14) (ret : Word) (s : State) : State :=
  let s1 := push16 ret s
  if 3 ≤ i.val ∨ s.cfg.nmFrameHasAf = true then push16 s1.af s1 else s1

/-- `Accept(i)` with return address `ret` (60 R325): push the frame, clear the latch of an edge-triggered source, clear I
and `halted`, go to the entry address. -/
def accept (i : Fin 14) (ret : Word) (s : State) : State :=
  let s1 := pushFrame i ret s
  let s2 := if i.val = 3 then s1 else s1.setPending (s1.pending &&& ~~~(1#14 <<< i.val))
  ((s2.setF (setI false s2.f)).setHalted false).setPc (entryAddress i)

/-- RETI (44 R282): AF, then PC. -/
def returnFromInterrupt (s : State) : State :=
  let r := pop16 s
  let q := pop16 (r.2.setAf r.1)
  q.2.setPc q.1

/-! ### The end of a meaning -/

/-- What a meaning answers. -/
abbrev Res := Host.Outcome State Fault Refusal

/-- `CYC(row, outcome)` (70 R395); `dflt` is the row's entry of spec/opcode_table.json for that outcome. -/
def Params.cycles (c : Params) (row : Nat) (outcome : Bool) (dflt : Nat) : Nat :=
  match c.cyc with
  | .spec => dflt
  | .other k => Config.cycOther k row outcome + 1

/-- An instruction of one cost: its next state, with the cost of its row. -/
def done (s : State) (row dflt : Nat) : Res := .next (s.setCost (Params.cycles s.cfg row true dflt))

/-- An instruction of two costs (R275, R221, R178): its next state and whether the condition held (or the repeat
continues), with the cost of that outcome. -/
def doneIf (r : State × Bool) (row ifTrue ifFalse : Nat) : Res :=
  .next (r.1.setCost (Params.cycles r.1.cfg row r.2 (if r.2 then ifTrue else ifFalse)))

end Sys2Proof.Machine
end

