-- ==== Sys2Proof/Machine/Operands.lean ====
section
/-! DEFINITION. The operand forms: effective address and 20-bit address of the five memory operands (spec 30 R100 to R105,
20 R68), branch targets (44 R277, R278), conditions (44 R275). All are computed from the register values when the execute
phase starts (40 R130). -/

namespace Sys2Proof.Machine

/-- The 16-bit effective address of a memory operand (R100 to R104), also the value of R105. -/
def ea (m : Mem) (s : State) : Word :=
  match m with
  | .gg p => s.get16 p
  | .mn a => a
  | .dp u => joinBytes 0xFF u
  | .xd y d => s.get16 (RegX.reg16 y) + sext16 d
  | .hla => s.get16 .hl + sext16 (s.get8 .a)

/-- The bank of a memory operand (R68): BX for IX, BY for IY, else 0. -/
def bankOf (m : Mem) (s : State) : BitVec 4 :=
  match m with
  | .gg .ix => s.bankX
  | .gg .iy => s.bankY
  | .xd .ix _ => s.bankX
  | .xd .iy _ => s.bankY
  | _ => 0

/-- `addr(m)`: the 20-bit address of a memory operand (R68, R130). -/
def addr (m : Mem) (s : State) : Addr := bankAddr (bankOf m s) (ea m s)

/-- `cond(cc)` from F as it is now (R275). -/
def holds (cc : Cond) (s : State) : Bool := (Flags.ofByte s.f).cond cc

/-- F.X (R31). -/
def flagX (s : State) : Bool := (Flags.ofByte s.f).x

/-- `PC_next + sext_16(e)` (R277). -/
def rel8 (e : Byte) (s : State) : Word := s.pc + sext16 e

/-- `PC_next + REL16_BIAS + st` (R278). -/
def rel16 (st : Word) (s : State) : Word := s.pc + (if s.cfg.rel16Minus1 then 0xFFFF else 0) + st

/-! ### Rows and costs of the (m) forms (70 R395) -/

/-- The addressing-mode penalty of a SRC or DST form, in cycles (40 R130, 70 R395). -/
def penalty : Mem → Nat
  | .gg _ => 0
  | .mn _ => 4
  | .dp _ => 2
  | .xd _ _ => 4
  | .hla => 8

/-- The row of spec/opcode_table.json of the SRC form that stands at place `k` of its format's 40 rows. -/
def srcRow (k : Nat) : Mem → Nat
  | .gg _ => 94 + k
  | .mn _ => 134 + k
  | .dp _ => 174 + k
  | .xd _ _ => 214 + k
  | .hla => 254 + k

/-- The row of the DST form at place `k` of the 14 rows that all DST formats share; in DST_XD and DST_HLA the row of LDA
stands third. -/
def dstRow (k : Nat) : Mem → Nat
  | .gg _ => 294 + k
  | .mn _ => 308 + k
  | .dp _ => 322 + k
  | .xd _ _ => 336 + k + (if 2 ≤ k then 1 else 0)
  | .hla => 351 + k + (if 2 ≤ k then 1 else 0)

/-- The row of LDA. -/
def ldaRow : Mem → Nat
  | .hla => 353
  | _ => 338

end Sys2Proof.Machine
end

