-- ==== Sys2Proof/Machine/Alu16.lean ====
section
/-! DEFINITION. The 16-bit ALU group with destination HL (spec 42 R205 to R213) and `ADD ix,src` (R214): shared operations,
then one meaning per row. -/

namespace Sys2Proof.Machine

/-- `ALU HL,src` with the source's value at hand (R205). -/
def aluHl (op : AluOp) (b : Word) (s : State) : State :=
  let r := alu16 op (s.get16 .hl) b s.f
  (if op.writes then s.set16 .hl r.1 else s).setF r.2

/-- `ALU HL,(m)` (R205). -/
def aluHlMem (op : AluOp) (m : Mem) (s : State) : State :=
  let v := read16 (addr m s) s
  aluHl op v.1 v.2

/-- `ADD ix,src` with the source's value at hand (R214): H, X, N, C only. -/
def addX (x : RegX) (b : Word) (s : State) : State :=
  let r := addXFlags (s.get16 (RegX.reg16 x)) b s.f
  (s.set16 (RegX.reg16 x) r.1).setF r.2

/-- `ADD ix,(m)` (R214). -/
def addXMem (x : RegX) (m : Mem) (s : State) : State :=
  let v := read16 (addr m s) s
  addX x v.1 v.2

/-! ### One meaning per constructor -/

/-- `ADD ix,mn`, row 17 (R214). -/
def execAddXW (x : RegX) (w : Word) (s : State) : Res := done (addX x w s) 17 6

/-- `ADD HL,(0FF00h+u)`, row 43 (R206). -/
def execAddHlAtU (u : Byte) (s : State) : Res := done (aluHlMem .add (.dp u) s) 43 10

/-- `ADD HL,mn`, row 44 (R206). -/
def execAddHlW (w : Word) (s : State) : Res := done (aluHl .add w s) 44 6

/-- `ADC HL,(0FF00h+u)`, row 47 (R207). -/
def execAdcHlAtU (u : Byte) (s : State) : Res := done (aluHlMem .adc (.dp u) s) 47 10

/-- `ADC HL,mn`, row 48 (R207). -/
def execAdcHlW (w : Word) (s : State) : Res := done (aluHl .adc w s) 48 6

/-- `SUB HL,(0FF00h+u)`, row 51 (R208). -/
def execSubHlAtU (u : Byte) (s : State) : Res := done (aluHlMem .sub (.dp u) s) 51 10

/-- `SUB HL,mn`, row 52 (R208). -/
def execSubHlW (w : Word) (s : State) : Res := done (aluHl .sub w s) 52 6

/-- `SBC HL,(0FF00h+u)`, row 55 (R209). -/
def execSbcHlAtU (u : Byte) (s : State) : Res := done (aluHlMem .sbc (.dp u) s) 55 10

/-- `SBC HL,mn`, row 56 (R209). -/
def execSbcHlW (w : Word) (s : State) : Res := done (aluHl .sbc w s) 56 6

/-- `AND HL,(0FF00h+u)`, row 59 (R210). -/
def execAndHlAtU (u : Byte) (s : State) : Res := done (aluHlMem .and (.dp u) s) 59 10

/-- `AND HL,mn`, row 60 (R210). -/
def execAndHlW (w : Word) (s : State) : Res := done (aluHl .and w s) 60 6

/-- `XOR HL,(0FF00h+u)`, row 63 (R211). -/
def execXorHlAtU (u : Byte) (s : State) : Res := done (aluHlMem .xor (.dp u) s) 63 10

/-- `XOR HL,mn`, row 64 (R211). -/
def execXorHlW (w : Word) (s : State) : Res := done (aluHl .xor w s) 64 6

/-- `OR HL,(0FF00h+u)`, row 67 (R212). -/
def execOrHlAtU (u : Byte) (s : State) : Res := done (aluHlMem .or (.dp u) s) 67 10

/-- `OR HL,mn`, row 68 (R212). -/
def execOrHlW (w : Word) (s : State) : Res := done (aluHl .or w s) 68 6

/-- `CP HL,(0FF00h+u)`, row 71 (R213). -/
def execCpHlAtU (u : Byte) (s : State) : Res := done (aluHlMem .cp (.dp u) s) 71 10

/-- `CP HL,mn`, row 72 (R213). -/
def execCpHlW (w : Word) (s : State) : Res := done (aluHl .cp w s) 72 6

/-- `ADD ix,(m)`, rows 98, 138, 178, 218, 258 (R214). -/
def execAddXAt (x : RegX) (m : Mem) (s : State) : Res := done (addXMem x m s) (srcRow 4 m) (10 + penalty m)

/-- `ADD HL,(m)`, rows 104, 144, 184, 224, 264 (R206). -/
def execAddHlAt (m : Mem) (s : State) : Res := done (aluHlMem .add m s) (srcRow 10 m) (8 + penalty m)

/-- `ADC HL,(m)`, rows 106, 146, 186, 226, 266 (R207). -/
def execAdcHlAt (m : Mem) (s : State) : Res := done (aluHlMem .adc m s) (srcRow 12 m) (8 + penalty m)

/-- `SUB HL,(m)`, rows 108, 148, 188, 228, 268 (R208). -/
def execSubHlAt (m : Mem) (s : State) : Res := done (aluHlMem .sub m s) (srcRow 14 m) (8 + penalty m)

/-- `SBC HL,(m)`, rows 110, 150, 190, 230, 270 (R209). -/
def execSbcHlAt (m : Mem) (s : State) : Res := done (aluHlMem .sbc m s) (srcRow 16 m) (8 + penalty m)

/-- `AND HL,(m)`, rows 112, 152, 192, 232, 272 (R210). -/
def execAndHlAt (m : Mem) (s : State) : Res := done (aluHlMem .and m s) (srcRow 18 m) (8 + penalty m)

/-- `XOR HL,(m)`, rows 114, 154, 194, 234, 274 (R211). -/
def execXorHlAt (m : Mem) (s : State) : Res := done (aluHlMem .xor m s) (srcRow 20 m) (8 + penalty m)

/-- `OR HL,(m)`, rows 116, 156, 196, 236, 276 (R212). -/
def execOrHlAt (m : Mem) (s : State) : Res := done (aluHlMem .or m s) (srcRow 22 m) (8 + penalty m)

/-- `CP HL,(m)`, rows 118, 158, 198, 238, 278 (R213). -/
def execCpHlAt (m : Mem) (s : State) : Res := done (aluHlMem .cp m s) (srcRow 24 m) (8 + penalty m)

/-- `ADD ix,gg`, row 368 (R214). -/
def execAddXG (x : RegX) (p : Reg16) (s : State) : Res := done (addX x (s.get16 p) s) 368 8

/-- `ADD HL,gg`, row 382 (R206). -/
def execAddHlG (p : Reg16) (s : State) : Res := done (aluHl .add (s.get16 p) s) 382 8

/-- `ADC HL,gg`, row 385 (R207). -/
def execAdcHlG (p : Reg16) (s : State) : Res := done (aluHl .adc (s.get16 p) s) 385 8

/-- `SUB HL,gg`, row 388 (R208). -/
def execSubHlG (p : Reg16) (s : State) : Res := done (aluHl .sub (s.get16 p) s) 388 8

/-- `SBC HL,gg`, row 391 (R209). -/
def execSbcHlG (p : Reg16) (s : State) : Res := done (aluHl .sbc (s.get16 p) s) 391 8

/-- `AND HL,gg`, row 394 (R210). -/
def execAndHlG (p : Reg16) (s : State) : Res := done (aluHl .and (s.get16 p) s) 394 8

/-- `XOR HL,gg`, row 397 (R211). -/
def execXorHlG (p : Reg16) (s : State) : Res := done (aluHl .xor (s.get16 p) s) 397 8

/-- `OR HL,gg`, row 400 (R212). -/
def execOrHlG (p : Reg16) (s : State) : Res := done (aluHl .or (s.get16 p) s) 400 8

/-- `CP HL,gg`, row 403 (R213). -/
def execCpHlG (p : Reg16) (s : State) : Res := done (aluHl .cp (s.get16 p) s) 403 8

end Sys2Proof.Machine
end

