-- ==== Sys2Proof/Machine/Alu8.lean ====
section
/-! DEFINITION. The 8-bit ALU group (spec 42 R189 to R197): shared operations, then one meaning per row. The destination is
read first, then the source; the result is written unless the operation is CP; then F. -/

namespace Sys2Proof.Machine

/-- `ALU A,src` with the source's value at hand (R189). -/
def aluA (op : AluOp) (b : Byte) (s : State) : State :=
  let r := alu8 op (s.get8 .a) b s.f
  (if op.writes then s.set8 .a r.1 else s).setF r.2

/-- `ALU A,(m)` (R189): the byte is read once. -/
def aluAMem (op : AluOp) (m : Mem) (s : State) : State :=
  let v := read8 (addr m s) s
  aluA op v.1 v.2

/-- `ALU r,n` (R189). -/
def aluRN (op : AluOp) (p : Reg8) (n : Byte) (s : State) : State :=
  let r := alu8 op (s.get8 p) n s.f
  (if op.writes then s.set8 p r.1 else s).setF r.2

/-- `ALU (m),n` (R189): the byte is read once and, except for CP, written once to the same address. -/
def aluMemN (op : AluOp) (m : Mem) (n : Byte) (s : State) : State :=
  let a := addr m s
  let v := read8 a s
  let r := alu8 op v.1 n v.2.f
  (if op.writes then write8 a r.1 v.2 else v.2).setF r.2

/-! ### One meaning per constructor -/

/-- `ADD A,(0FF00h+u)`, row 41 (R190). -/
def execAddAAtU (u : Byte) (s : State) : Res := done (aluAMem .add (.dp u) s) 41 8

/-- `ADD A,n`, row 42 (R190). -/
def execAddAN (n : Byte) (s : State) : Res := done (aluA .add n s) 42 4

/-- `ADC A,(0FF00h+u)`, row 45 (R191). -/
def execAdcAAtU (u : Byte) (s : State) : Res := done (aluAMem .adc (.dp u) s) 45 8

/-- `ADC A,n`, row 46 (R191). -/
def execAdcAN (n : Byte) (s : State) : Res := done (aluA .adc n s) 46 4

/-- `SUB A,(0FF00h+u)`, row 49 (R192). -/
def execSubAAtU (u : Byte) (s : State) : Res := done (aluAMem .sub (.dp u) s) 49 8

/-- `SUB A,n`, row 50 (R192). -/
def execSubAN (n : Byte) (s : State) : Res := done (aluA .sub n s) 50 4

/-- `SBC A,(0FF00h+u)`, row 53 (R193). -/
def execSbcAAtU (u : Byte) (s : State) : Res := done (aluAMem .sbc (.dp u) s) 53 8

/-- `SBC A,n`, row 54 (R193). -/
def execSbcAN (n : Byte) (s : State) : Res := done (aluA .sbc n s) 54 4

/-- `AND A,(0FF00h+u)`, row 57 (R194). -/
def execAndAAtU (u : Byte) (s : State) : Res := done (aluAMem .and (.dp u) s) 57 8

/-- `AND A,n`, row 58 (R194). -/
def execAndAN (n : Byte) (s : State) : Res := done (aluA .and n s) 58 4

/-- `XOR A,(0FF00h+u)`, row 61 (R195). -/
def execXorAAtU (u : Byte) (s : State) : Res := done (aluAMem .xor (.dp u) s) 61 8

/-- `XOR A,n`, row 62 (R195). -/
def execXorAN (n : Byte) (s : State) : Res := done (aluA .xor n s) 62 4

/-- `OR A,(0FF00h+u)`, row 65 (R196). -/
def execOrAAtU (u : Byte) (s : State) : Res := done (aluAMem .or (.dp u) s) 65 8

/-- `OR A,n`, row 66 (R196). -/
def execOrAN (n : Byte) (s : State) : Res := done (aluA .or n s) 66 4

/-- `CP A,(0FF00h+u)`, row 69 (R197). -/
def execCpAAtU (u : Byte) (s : State) : Res := done (aluAMem .cp (.dp u) s) 69 8

/-- `CP A,n`, row 70 (R197). -/
def execCpAN (n : Byte) (s : State) : Res := done (aluA .cp n s) 70 4

/-- `ADD A,(m)`, rows 103, 143, 183, 223, 263 (R190). -/
def execAddAAt (m : Mem) (s : State) : Res := done (aluAMem .add m s) (srcRow 9 m) (6 + penalty m)

/-- `ADC A,(m)`, rows 105, 145, 185, 225, 265 (R191). -/
def execAdcAAt (m : Mem) (s : State) : Res := done (aluAMem .adc m s) (srcRow 11 m) (6 + penalty m)

/-- `SUB A,(m)`, rows 107, 147, 187, 227, 267 (R192). -/
def execSubAAt (m : Mem) (s : State) : Res := done (aluAMem .sub m s) (srcRow 13 m) (6 + penalty m)

/-- `SBC A,(m)`, rows 109, 149, 189, 229, 269 (R193). -/
def execSbcAAt (m : Mem) (s : State) : Res := done (aluAMem .sbc m s) (srcRow 15 m) (6 + penalty m)

/-- `AND A,(m)`, rows 111, 151, 191, 231, 271 (R194). -/
def execAndAAt (m : Mem) (s : State) : Res := done (aluAMem .and m s) (srcRow 17 m) (6 + penalty m)

/-- `XOR A,(m)`, rows 113, 153, 193, 233, 273 (R195). -/
def execXorAAt (m : Mem) (s : State) : Res := done (aluAMem .xor m s) (srcRow 19 m) (6 + penalty m)

/-- `OR A,(m)`, rows 115, 155, 195, 235, 275 (R196). -/
def execOrAAt (m : Mem) (s : State) : Res := done (aluAMem .or m s) (srcRow 21 m) (6 + penalty m)

/-- `CP A,(m)`, rows 117, 157, 197, 237, 277 (R197). -/
def execCpAAt (m : Mem) (s : State) : Res := done (aluAMem .cp m s) (srcRow 23 m) (6 + penalty m)

/-- `ADD (m),n`, rows 298, 312, 326, 341, 356 (R190). -/
def execAddAtN (m : Mem) (n : Byte) (s : State) : Res := done (aluMemN .add m n s) (dstRow 4 m) (10 + penalty m)

/-- `ADC (m),n`, rows 299, 313, 327, 342, 357 (R191). -/
def execAdcAtN (m : Mem) (n : Byte) (s : State) : Res := done (aluMemN .adc m n s) (dstRow 5 m) (10 + penalty m)

/-- `SUB (m),n`, rows 300, 314, 328, 343, 358 (R192). -/
def execSubAtN (m : Mem) (n : Byte) (s : State) : Res := done (aluMemN .sub m n s) (dstRow 6 m) (10 + penalty m)

/-- `SBC (m),n`, rows 301, 315, 329, 344, 359 (R193). -/
def execSbcAtN (m : Mem) (n : Byte) (s : State) : Res := done (aluMemN .sbc m n s) (dstRow 7 m) (10 + penalty m)

/-- `AND (m),n`, rows 302, 316, 330, 345, 360 (R194). -/
def execAndAtN (m : Mem) (n : Byte) (s : State) : Res := done (aluMemN .and m n s) (dstRow 8 m) (10 + penalty m)

/-- `XOR (m),n`, rows 303, 317, 331, 346, 361 (R195). -/
def execXorAtN (m : Mem) (n : Byte) (s : State) : Res := done (aluMemN .xor m n s) (dstRow 9 m) (10 + penalty m)

/-- `OR (m),n`, rows 304, 318, 332, 347, 362 (R196). -/
def execOrAtN (m : Mem) (n : Byte) (s : State) : Res := done (aluMemN .or m n s) (dstRow 10 m) (10 + penalty m)

/-- `CP (m),n`, rows 305, 319, 333, 348, 363 (R197). -/
def execCpAtN (m : Mem) (n : Byte) (s : State) : Res := done (aluMemN .cp m n s) (dstRow 11 m) (10 + penalty m)

/-- `ADD A,r`, row 380 (R190). -/
def execAddAR (p : Reg8) (s : State) : Res := done (aluA .add (s.get8 p) s) 380 4

/-- `ADD r,n`, row 381 (R190). -/
def execAddRN (p : Reg8) (n : Byte) (s : State) : Res := done (aluRN .add p n s) 381 6

/-- `ADC A,r`, row 383 (R191). -/
def execAdcAR (p : Reg8) (s : State) : Res := done (aluA .adc (s.get8 p) s) 383 4

/-- `ADC r,n`, row 384 (R191). -/
def execAdcRN (p : Reg8) (n : Byte) (s : State) : Res := done (aluRN .adc p n s) 384 6

/-- `SUB A,r`, row 386 (R192). -/
def execSubAR (p : Reg8) (s : State) : Res := done (aluA .sub (s.get8 p) s) 386 4

/-- `SUB r,n`, row 387 (R192). -/
def execSubRN (p : Reg8) (n : Byte) (s : State) : Res := done (aluRN .sub p n s) 387 6

/-- `SBC A,r`, row 389 (R193). -/
def execSbcAR (p : Reg8) (s : State) : Res := done (aluA .sbc (s.get8 p) s) 389 4

/-- `SBC r,n`, row 390 (R193). -/
def execSbcRN (p : Reg8) (n : Byte) (s : State) : Res := done (aluRN .sbc p n s) 390 6

/-- `AND A,r`, row 392 (R194). -/
def execAndAR (p : Reg8) (s : State) : Res := done (aluA .and (s.get8 p) s) 392 4

/-- `AND r,n`, row 393 (R194). -/
def execAndRN (p : Reg8) (n : Byte) (s : State) : Res := done (aluRN .and p n s) 393 6

/-- `XOR A,r`, row 395 (R195). -/
def execXorAR (p : Reg8) (s : State) : Res := done (aluA .xor (s.get8 p) s) 395 4

/-- `XOR r,n`, row 396 (R195). -/
def execXorRN (p : Reg8) (n : Byte) (s : State) : Res := done (aluRN .xor p n s) 396 6

/-- `OR A,r`, row 398 (R196). -/
def execOrAR (p : Reg8) (s : State) : Res := done (aluA .or (s.get8 p) s) 398 4

/-- `OR r,n`, row 399 (R196). -/
def execOrRN (p : Reg8) (n : Byte) (s : State) : Res := done (aluRN .or p n s) 399 6

/-- `CP A,r`, row 401 (R197). -/
def execCpAR (p : Reg8) (s : State) : Res := done (aluA .cp (s.get8 p) s) 401 4

/-- `CP r,n`, row 402 (R197). -/
def execCpRN (p : Reg8) (n : Byte) (s : State) : Res := done (aluRN .cp p n s) 402 6

end Sys2Proof.Machine
end

