-- ==== Sys2Proof/Machine/Bit.lean ====
section
/-! DEFINITION. Bit instructions (spec 43 R251 to R254) and carry-flag instructions (R255 to R257): shared operations, then
one meaning per row. -/

namespace Sys2Proof.Machine

/-- The flags of BIT and TSET for the value `v` (R251): S and V are two fresh free values (log entry 5). -/
def testBit (b : BitNo) (v : Byte) (s : State) : State :=
  (s.setF (bitFlags v b (Config.freeFlag (2 * s.freeCount)) (Config.freeFlag (2 * s.freeCount + 1)) s.f)).takeFree

/-- `BIT b,r` (R251). -/
def bitReg (b : BitNo) (p : Reg8) (s : State) : State := testBit b (s.get8 p) s

/-- `BIT b,(m)` (R251): one read, nothing written back. -/
def bitMem (b : BitNo) (m : Mem) (s : State) : State :=
  let v := read8 (addr m s) s
  testBit b v.1 v.2

/-- `SET b,r` (R252). -/
def setReg (b : BitNo) (p : Reg8) (s : State) : State := s.set8 p (s.get8 p ||| bitMask b)

/-- `SET b,(m)` (R252): one read, then one write of the whole byte. -/
def setMem (b : BitNo) (m : Mem) (s : State) : State :=
  let a := addr m s
  let v := read8 a s
  write8 a (v.1 ||| bitMask b) v.2

/-- `RES b,r` (R253). -/
def resReg (b : BitNo) (p : Reg8) (s : State) : State := s.set8 p (s.get8 p &&& ~~~bitMask b)

/-- `RES b,(m)` (R253). -/
def resMem (b : BitNo) (m : Mem) (s : State) : State :=
  let a := addr m s
  let v := read8 a s
  write8 a (v.1 &&& ~~~bitMask b) v.2

/-- `TSET b,r` (R254): flags from the value before the set. -/
def tsetReg (b : BitNo) (p : Reg8) (s : State) : State :=
  (testBit b (s.get8 p) s).set8 p (s.get8 p ||| bitMask b)

/-- `TSET b,(m)` (R254): one read, one write. -/
def tsetMem (b : BitNo) (m : Mem) (s : State) : State :=
  let a := addr m s
  let v := read8 a s
  write8 a (v.1 ||| bitMask b) (testBit b v.1 v.2)

/-- `RCF` (R255). -/
def rcf (s : State) : State := s.setF (rcfFlags s.f)

/-- `SCF` (R256). -/
def scf (s : State) : State := s.setF (scfFlags s.f)

/-- `CCF` (R257). -/
def ccf (s : State) : State := s.setF (ccfFlags s.f)

/-! ### One meaning per constructor -/

/-- `RCF`, row 9 (R255). -/
def execRcf (s : State) : Res := done (rcf s) 9 2

/-- `SCF`, row 10 (R256). -/
def execScf (s : State) : Res := done (scf s) 10 2

/-- `CCF`, row 11 (R257). -/
def execCcf (s : State) : Res := done (ccf s) 11 2

/-- `BIT b,(0FF00h+u)`, row 89 (R251). -/
def execBitAtU (b : BitNo) (u : Byte) (s : State) : Res := done (bitMem b (.dp u) s) 89 8

/-- `RES b,(0FF00h+u)`, row 90 (R253). -/
def execResAtU (b : BitNo) (u : Byte) (s : State) : Res := done (resMem b (.dp u) s) 90 12

/-- `SET b,(0FF00h+u)`, row 91 (R252). -/
def execSetAtU (b : BitNo) (u : Byte) (s : State) : Res := done (setMem b (.dp u) s) 91 12

/-- `TSET b,(m)`, rows 99, 139, 179, 219, 259 (R254). -/
def execTsetAt (b : BitNo) (m : Mem) (s : State) : Res := done (tsetMem b m s) (srcRow 5 m) (12 + penalty m)

/-- `BIT b,(m)`, rows 131, 171, 211, 251, 291 (R251). -/
def execBitAt (b : BitNo) (m : Mem) (s : State) : Res := done (bitMem b m s) (srcRow 37 m) (6 + penalty m)

/-- `RES b,(m)`, rows 132, 172, 212, 252, 292 (R253). -/
def execResAt (b : BitNo) (m : Mem) (s : State) : Res := done (resMem b m s) (srcRow 38 m) (10 + penalty m)

/-- `SET b,(m)`, rows 133, 173, 213, 253, 293 (R252). -/
def execSetAt (b : BitNo) (m : Mem) (s : State) : Res := done (setMem b m s) (srcRow 39 m) (10 + penalty m)

/-- `TSET b,r`, row 369 (R254). -/
def execTsetR (b : BitNo) (p : Reg8) (s : State) : Res := done (tsetReg b p s) 369 8

/-- `BIT b,r`, row 412 (R251). -/
def execBitR (b : BitNo) (p : Reg8) (s : State) : Res := done (bitReg b p s) 412 4

/-- `RES b,r`, row 413 (R253). -/
def execResR (b : BitNo) (p : Reg8) (s : State) : Res := done (resReg b p s) 413 4

/-- `SET b,r`, row 414 (R252). -/
def execSetR (b : BitNo) (p : Reg8) (s : State) : Res := done (setReg b p s) 414 4

end Sys2Proof.Machine
end

