-- ==== Sys2Proof/Machine/Block.lean ====
section
/-! DEFINITION. Block transfer and block compare instructions (spec 41 R170 to R179): shared element steps, then one
meaning per row. A repeating instruction that is not finished leaves PC at its own first byte (R178). -/

namespace Sys2Proof.Machine

/-- The element step of LDI and LDD (R170, R172): one read, one write, then the registers, then the flags; `d` is the step
of the pointers, 1 or -1. Also answers whether BC is not 0 after the decrement. -/
def ldElement (d : Word) (s : State) : State × Bool :=
  let v := read8 (bank0 s.gen.hl) s
  let s1 := write8 (bank0 s.gen.de) v.1 v.2
  let s2 := s1.setGen ⟨s1.gen.bc - 1, s1.gen.de + d, s1.gen.hl + d⟩
  let more := s2.gen.bc != 0
  (s2.setF (ldiFlags more s2.f), more)

/-- The element step of CPI and CPD (R174, R176). Also answers whether BC is not 0 after the decrement and A - m is not
0. -/
def cpElement (d : Word) (s : State) : State × Bool :=
  let m := read8 (bank0 s.gen.hl) s
  let a := m.2.get8 .a
  let s1 := m.2.setGen { m.2.gen with bc := m.2.gen.bc - 1, hl := m.2.gen.hl + d }
  let more := s1.gen.bc != 0
  (s1.setF (cpiFlags a m.1 more s1.f), more && (a - m.1 != 0))

/-- The repeat mechanism (R178): while the condition holds, PC goes back to the instruction's own first byte. -/
def repeatWhile (r : State × Bool) : State × Bool := (if r.2 then r.1.setPc (r.1.pc - 2) else r.1, r.2)

/-! ### One meaning per constructor -/

/-- `LDI`, row 372 (R170). -/
def execLdi (s : State) : Res := done (ldElement 1 s).1 372 14

/-- `LDIR`, row 373 (R171). -/
def execLdir (s : State) : Res := doneIf (repeatWhile (ldElement 1 s)) 373 18 14

/-- `LDD`, row 374 (R172). -/
def execLdd (s : State) : Res := done (ldElement 0xFFFF s).1 374 14

/-- `LDDR`, row 375 (R173). -/
def execLddr (s : State) : Res := doneIf (repeatWhile (ldElement 0xFFFF s)) 375 18 14

/-- `CPI`, row 376 (R174). -/
def execCpi (s : State) : Res := done (cpElement 1 s).1 376 14

/-- `CPIR`, row 377 (R175). -/
def execCpir (s : State) : Res := doneIf (repeatWhile (cpElement 1 s)) 377 18 14

/-- `CPD`, row 378 (R176). -/
def execCpd (s : State) : Res := done (cpElement 0xFFFF s).1 378 14

/-- `CPDR`, row 379 (R177). -/
def execCpdr (s : State) : Res := doneIf (repeatWhile (cpElement 0xFFFF s)) 379 18 14

end Sys2Proof.Machine
end

