-- ==== Sys2Proof/Machine/Control.lean ====
section
/-! DEFINITION. Control transfer (spec 44 R276 to R284): shared operations, then one meaning per row. PC is `PC_next` when a
meaning starts (R130). -/

namespace Sys2Proof.Machine

/-- A jump under a condition (R276 to R278). -/
def jumpIf (c : Bool) (target : Word) (s : State) : State := if c then s.setPc target else s

/-- A call under a condition (R279, R280): push `PC_next`, then go to the target. -/
def callIf (c : Bool) (target : Word) (s : State) : State := if c then (push16 s.pc s).setPc target else s

/-- A return under a condition (R281). -/
def retIf (c : Bool) (s : State) : State :=
  if c then
    let r := pop16 s
    r.2.setPc r.1
  else s

/-- `DJNZ $+2+e` (R283): decrement B, jump if it is not 0; answers whether it jumped. -/
def djnz (e : Byte) (s : State) : State × Bool :=
  let v := s.get8 .b - 1
  let s1 := s.set8 .b v
  (if v != 0 then s1.setPc (rel8 e s1) else s1, v != 0)

/-- `DJNZ BC,$+2+e` (R284). -/
def djnzBc (e : Byte) (s : State) : State × Bool :=
  let v := s.get16 .bc - 1
  let s1 := s.set16 .bc v
  (if v != 0 then s1.setPc (rel8 e s1) else s1, v != 0)

/-! ### One meaning per constructor -/

/-- `DJNZ $+2+e`, row 19 (R283). -/
def execDjnz (e : Byte) (s : State) : Res := doneIf (djnz e s) 19 10 6

/-- `DJNZ BC,$+2+e`, row 20 (R284). -/
def execDjnzBc (e : Byte) (s : State) : Res := doneIf (djnzBc e s) 20 10 6

/-- `JP mn`, row 21 (R276). -/
def execJp (w : Word) (s : State) : Res := done (jumpIf true w s) 21 8

/-- `JRL $+3+st`, row 22 (R278). -/
def execJrl (st : Word) (s : State) : Res := done (jumpIf true (rel16 st s) s) 22 10

/-- `CALL mn`, row 23 (R279). -/
def execCall (w : Word) (s : State) : Res := done (callIf true w s) 23 14

/-- `CALLR $+3+st`, row 24 (R280). -/
def execCallr (st : Word) (s : State) : Res := done (callIf true (rel16 st s) s) 24 16

/-- `RET`, row 25 (R281). -/
def execRet (s : State) : Res := done (retIf true s) 25 10

/-- `RETI`, row 26 (R282). -/
def execReti (s : State) : Res := done (returnFromInterrupt s) 26 14

/-- `JR cc,$+2+e`, row 92 (R277). -/
def execJr (cc : Cond) (e : Byte) (s : State) : Res := doneIf (jumpIf (holds cc s) (rel8 e s) s, holds cc s) 92 8 4

/-- `JP cc,ea`, rows 306, 320, 334, 349, 364 (R276). -/
def execJpCc (cc : Cond) (m : Mem) (s : State) : Res :=
  doneIf (jumpIf (holds cc s) (ea m s) s, holds cc s) (dstRow 12 m) (8 + penalty m) (6 + penalty m)

/-- `CALL cc,ea`, rows 307, 321, 335, 350, 365 (R279). -/
def execCallCc (cc : Cond) (m : Mem) (s : State) : Res :=
  doneIf (callIf (holds cc s) (ea m s) s, holds cc s) (dstRow 13 m) (14 + penalty m) (6 + penalty m)

/-- `RET cc`, row 415 (R281). -/
def execRetCc (cc : Cond) (s : State) : Res := doneIf (retIf (holds cc s) s, holds cc s) 415 14 6

end Sys2Proof.Machine
end

