-- ==== Sys2Proof/Machine/IncDec.lean ====
section
/-! DEFINITION. Increment and decrement (spec 42 R215 to R222) and accumulator adjust (R223 to R225): shared operations,
then one meaning per row. -/

namespace Sys2Proof.Machine

/-- `INC r` (R215). -/
def incReg (r : Reg8) (s : State) : State :=
  let v := incFlags 4 (s.get8 r) s.f
  (s.set8 r v.1).setF v.2

/-- `DEC r` (R216). -/
def decReg (r : Reg8) (s : State) : State :=
  let v := decFlags 4 (s.get8 r) s.f
  (s.set8 r v.1).setF v.2

/-- `INC (m)` (R215): one read, then one write. -/
def incMem8 (m : Mem) (s : State) : State :=
  let a := addr m s
  let t := read8 a s
  let v := incFlags 4 t.1 t.2.f
  (write8 a v.1 t.2).setF v.2

/-- `DEC (m)` (R216). -/
def decMem8 (m : Mem) (s : State) : State :=
  let a := addr m s
  let t := read8 a s
  let v := decFlags 4 t.1 t.2.f
  (write8 a v.1 t.2).setF v.2

/-- `INCW (m)` (R219): read low, read high, write low, write high. -/
def incwMem (m : Mem) (s : State) : State :=
  let a := addr m s
  let t := read16 a s
  let v := incFlags 12 t.1 t.2.f
  (write16 a v.1 t.2).setF v.2

/-- `DECW (m)` (R220). -/
def decwMem (m : Mem) (s : State) : State :=
  let a := addr m s
  let t := read16 a s
  let v := decFlags 12 t.1 t.2.f
  (write16 a v.1 t.2).setF v.2

/-- `INCX (0FF00h+u)` (R221): INC when X is set, else nothing; answers X. -/
def incx (u : Byte) (s : State) : State × Bool := (if flagX s then incMem8 (.dp u) s else s, flagX s)

/-- `DECX (0FF00h+u)` (R222). -/
def decx (u : Byte) (s : State) : State × Bool := (if flagX s then decMem8 (.dp u) s else s, flagX s)

/-- `NEG A` (R223): `Sub8(0, A, 0)`. -/
def neg (s : State) : State :=
  let r := subFlags 4 (0 : Byte) (s.get8 .a) false s.f
  (s.set8 .a r.1).setF r.2

/-- `CPL A` (R224). -/
def cpl (s : State) : State := (s.set8 .a (s.get8 .a ^^^ 0xFF)).setF (cplFlags s.f)

/-- `DAA A` (R225). -/
def daa (s : State) : State :=
  let r := daaFlags (s.get8 .a) s.f
  (s.set8 .a r.1).setF r.2

/-! ### One meaning per constructor -/

/-- `INCX (0FF00h+u)`, row 4 (R221). -/
def execIncx (u : Byte) (s : State) : Res := doneIf (incx u s) 4 10 6

/-- `DAA A`, row 8 (R225). -/
def execDaa (s : State) : Res := done (daa s) 8 4

/-- `DECX (0FF00h+u)`, row 12 (R222). -/
def execDecx (u : Byte) (s : State) : Res := doneIf (decx u s) 12 10 6

/-- `CPL A`, row 13 (R224). -/
def execCpl (s : State) : Res := done (cpl s) 13 2

/-- `NEG A`, row 14 (R223). -/
def execNeg (s : State) : Res := done (neg s) 14 2

/-- `INC r`, row 73 (R215). -/
def execIncR (r : Reg8) (s : State) : Res := done (incReg r s) 73 2

/-- `INC (0FF00h+u)`, row 74 (R215). -/
def execIncAtU (u : Byte) (s : State) : Res := done (incMem8 (.dp u) s) 74 10

/-- `DEC r`, row 75 (R216). -/
def execDecR (r : Reg8) (s : State) : Res := done (decReg r s) 75 2

/-- `DEC (0FF00h+u)`, row 76 (R216). -/
def execDecAtU (u : Byte) (s : State) : Res := done (decMem8 (.dp u) s) 76 10

/-- `INC gg`, row 77 (R217). -/
def execIncG (g : Reg16) (s : State) : Res := done (s.set16 g (s.get16 g + 1)) 77 4

/-- `INCW (0FF00h+u)`, row 78 (R219). -/
def execIncwAtU (u : Byte) (s : State) : Res := done (incwMem (.dp u) s) 78 14

/-- `DEC gg`, row 79 (R218). -/
def execDecG (g : Reg16) (s : State) : Res := done (s.set16 g (s.get16 g - 1)) 79 4

/-- `DECW (0FF00h+u)`, row 80 (R220). -/
def execDecwAtU (u : Byte) (s : State) : Res := done (decwMem (.dp u) s) 80 14

/-- `INC (m)`, rows 119, 159, 199, 239, 279 (R215). -/
def execIncAt (m : Mem) (s : State) : Res := done (incMem8 m s) (srcRow 25 m) (8 + penalty m)

/-- `DEC (m)`, rows 120, 160, 200, 240, 280 (R216). -/
def execDecAt (m : Mem) (s : State) : Res := done (decMem8 m s) (srcRow 26 m) (8 + penalty m)

/-- `INCW (m)`, rows 121, 161, 201, 241, 281 (R219). -/
def execIncwAt (m : Mem) (s : State) : Res := done (incwMem m s) (srcRow 27 m) (12 + penalty m)

/-- `DECW (m)`, rows 122, 162, 202, 242, 282 (R220). -/
def execDecwAt (m : Mem) (s : State) : Res := done (decwMem m s) (srcRow 28 m) (12 + penalty m)

end Sys2Proof.Machine
end

