-- ==== Sys2Proof/Machine/Load.lean ====
section
/-! DEFINITION. Load, store, stack and exchange instructions (spec 40 R130 to R148): shared operations, then one meaning
per row. No instruction here changes a flag, but POP AF and EX AF,AF' replace all of F. -/

namespace Sys2Proof.Machine

/-- `LD r,(m)` (R133): the address uses the registers before the load. -/
def loadR (r : Reg8) (m : Mem) (s : State) : State :=
  let v := read8 (addr m s) s
  v.2.set8 r v.1

/-- `LD (m),r` (R134). -/
def storeR (m : Mem) (r : Reg8) (s : State) : State := write8 (addr m s) (s.get8 r) s

/-- `LD (m),n` (R135). -/
def storeN (m : Mem) (n : Byte) (s : State) : State := write8 (addr m s) n s

/-- `LD gg,(m)` (R138). -/
def loadG (g : Reg16) (m : Mem) (s : State) : State :=
  let v := read16 (addr m s) s
  v.2.set16 g v.1

/-- `LD (m),gg` (R139). -/
def storeG (m : Mem) (g : Reg16) (s : State) : State := write16 (addr m s) (s.get16 g) s

/-- `LDW (m),mn` (R140). -/
def storeW (m : Mem) (w : Word) (s : State) : State := write16 (addr m s) w s

/-- `LDA gg,ea` (R141): the effective address itself, no memory access, no bank. -/
def lda (g : Reg16) (m : Mem) (s : State) : State := s.set16 g (ea m s)

/-- `LDAR HL,$+3+st` (R142). -/
def ldar (st : Word) (s : State) : State := s.set16 .hl (rel16 st s)

/-- `PUSH qq` (R143). -/
def pushQ (q : RegQ) (s : State) : State := push16 (s.getQ q) s

/-- `POP qq` (R144). -/
def popQ (q : RegQ) (s : State) : State :=
  let v := pop16 s
  v.2.setQ q v.1

/-- `EX DE,HL` (R145). -/
def exDeHl (s : State) : State := s.setGen { s.gen with de := s.gen.hl, hl := s.gen.de }

/-- `EX (m),gg` (R148): one address, both reads before both writes. -/
def exMem (m : Mem) (g : Reg16) (s : State) : State :=
  let a := addr m s
  let t := read16 a s
  (write16 a (t.2.get16 g) t.2).set16 g t.1

/-! ### One meaning per constructor -/

/-- `EX DE,HL`, row 5 (R145). -/
def execExDeHl (s : State) : Res := done (exDeHl s) 5 2

/-- `EX AF,AF'`, row 6 (R146). -/
def execExAfAf (s : State) : Res := done s.swapAf 6 2

/-- `EXX`, row 7 (R147). -/
def execExx (s : State) : Res := done s.swapGen 7 2

/-- `LDAR HL,$+3+st`, row 18 (R142). -/
def execLdar (st : Word) (s : State) : Res := done (ldar st s) 18 8

/-- `LD A,r`, row 27 (R131). -/
def execLdAR (r : Reg8) (s : State) : Res := done (s.set8 .a (s.get8 r)) 27 2

/-- `LD A,(0FF00h+u)`, row 28 (R133). -/
def execLdAAtU (u : Byte) (s : State) : Res := done (loadR .a (.dp u) s) 28 8

/-- `LD r,A`, row 29 (R131). -/
def execLdRA (r : Reg8) (s : State) : Res := done (s.set8 r (s.get8 .a)) 29 2

/-- `LD (0FF00h+u),A`, row 30 (R134). -/
def execLdAtUA (u : Byte) (s : State) : Res := done (storeR (.dp u) .a s) 30 8

/-- `LD r,n`, row 31 (R132). -/
def execLdRN (r : Reg8) (n : Byte) (s : State) : Res := done (s.set8 r n) 31 4

/-- `LD (0FF00h+u),n`, row 32 (R135). -/
def execLdAtUN (u : Byte) (n : Byte) (s : State) : Res := done (storeN (.dp u) n s) 32 10

/-- `LD gg,mn`, row 33 (R136). -/
def execLdGW (g : Reg16) (w : Word) (s : State) : Res := done (s.set16 g w) 33 6

/-- `LDW (0FF00h+u),mn`, row 34 (R140). -/
def execLdwAtU (u : Byte) (w : Word) (s : State) : Res := done (storeW (.dp u) w s) 34 14

/-- `LD HL,gg`, row 35 (R137). -/
def execLdHlG (g : Reg16) (s : State) : Res := done (s.set16 .hl (s.get16 g)) 35 4

/-- `LD HL,(0FF00h+u)`, row 36 (R138). -/
def execLdHlAtU (u : Byte) (s : State) : Res := done (loadG .hl (.dp u) s) 36 10

/-- `LD gg,HL`, row 37 (R137). -/
def execLdGHl (g : Reg16) (s : State) : Res := done (s.set16 g (s.get16 .hl)) 37 4

/-- `LD (0FF00h+u),HL`, row 38 (R139). -/
def execLdAtUHl (u : Byte) (s : State) : Res := done (storeG (.dp u) .hl s) 38 10

/-- `PUSH qq`, row 39 (R143). -/
def execPush (q : RegQ) (s : State) : Res := done (pushQ q s) 39 8

/-- `POP qq`, row 40 (R144). -/
def execPop (q : RegQ) (s : State) : Res := done (popQ q s) 40 10

/-- `LD r,(m)`, rows 100, 140, 180, 220, 260 (R133). -/
def execLdRAt (r : Reg8) (m : Mem) (s : State) : Res := done (loadR r m s) (srcRow 6 m) (6 + penalty m)

/-- `LD gg,(m)`, rows 101, 141, 181, 221, 261 (R138). -/
def execLdGAt (g : Reg16) (m : Mem) (s : State) : Res := done (loadG g m s) (srcRow 7 m) (8 + penalty m)

/-- `EX (m),gg`, rows 102, 142, 182, 222, 262 (R148). -/
def execExAt (m : Mem) (g : Reg16) (s : State) : Res := done (exMem m g s) (srcRow 8 m) (14 + penalty m)

/-- `LD (m),r`, rows 294, 308, 322, 336, 351 (R134). -/
def execLdAtR (m : Mem) (r : Reg8) (s : State) : Res := done (storeR m r s) (dstRow 0 m) (6 + penalty m)

/-- `LD (m),n`, rows 295, 309, 323, 337, 352 (R135). -/
def execLdAtN (m : Mem) (n : Byte) (s : State) : Res := done (storeN m n s) (dstRow 1 m) (8 + penalty m)

/-- `LDW (m),mn`, rows 296, 310, 324, 339, 354 (R140). -/
def execLdwAt (m : Mem) (w : Word) (s : State) : Res := done (storeW m w s) (dstRow 2 m) (12 + penalty m)

/-- `LD (m),gg`, rows 297, 311, 325, 340, 355 (R139). -/
def execLdAtG (m : Mem) (g : Reg16) (s : State) : Res := done (storeG m g s) (dstRow 3 m) (8 + penalty m)

/-- `LDA gg,ea`, rows 338, 353 (R141). -/
def execLda (g : Reg16) (m : Mem) (s : State) : Res := done (lda g m s) (ldaRow m) (6 + penalty m)

/-- `LD r',r`, row 370 (R131). -/
def execLdRR (r : Reg8) (p : Reg8) (s : State) : Res := done (s.set8 r (s.get8 p)) 370 4

/-- `LD gg',gg`, row 371 (R137). -/
def execLdGG (g : Reg16) (p : Reg16) (s : State) : Res := done (s.set16 g (s.get16 p)) 371 6

end Sys2Proof.Machine
end

