-- ==== Sys2Proof/Machine/MulDiv.lean ====
section
/-! DEFINITION. Multiply and divide (spec 42 R226, R227): shared operations, then one meaning per row. -/

namespace Sys2Proof.Machine

/-- `MUL HL,src` with the source's value at hand (R226): unsigned 8 by 8, no flag. -/
def mulBy (v : Byte) (s : State) : State := s.set16 .hl (BitVec.ofNat 16 ((s.get8 .l).toNat * v.toNat))

/-- `MUL HL,(m)` (R226). -/
def mulMem (m : Mem) (s : State) : State :=
  let v := read8 (addr m s) s
  mulBy v.1 v.2

/-- `DIV0(hl)` (R227): the default, or another function of the operand (log entry 4). -/
def divZero (c : Params) (hl : Word) : Word :=
  match c.div0 with
  | .spec => ((hl <<< 8) &&& 0xFF00#16) ||| ((hl >>> 8) ^^^ 0x00FF#16)
  | .other k => Config.div0Other k hl

/-- `DIV HL,src` with the source's value at hand (R227): L is the quotient's low byte, H the remainder; V only. -/
def divBy (v : Byte) (s : State) : State :=
  let hl := s.get16 .hl
  if v = 0 then (s.set16 .hl (divZero s.cfg hl)).setF (divFlags true s.f)
  else
    let q := hl.toNat / v.toNat
    let rem := hl.toNat % v.toNat
    (s.set16 .hl (joinBytes (BitVec.ofNat 8 rem) (BitVec.ofNat 8 q))).setF (divFlags (decide (255 < q)) s.f)

/-- `DIV HL,(m)` (R227): the operand is read before HL is written. -/
def divMem (m : Mem) (s : State) : State :=
  let v := read8 (addr m s) s
  divBy v.1 v.2

/-! ### One meaning per constructor -/

/-- `MUL HL,n`, row 15 (R226). -/
def execMulN (n : Byte) (s : State) : Res := done (mulBy n s) 15 16

/-- `DIV HL,n`, row 16 (R227). -/
def execDivN (n : Byte) (s : State) : Res := done (divBy n s) 16 16

/-- `MUL HL,(m)`, rows 96, 136, 176, 216, 256 (R226). -/
def execMulAt (m : Mem) (s : State) : Res := done (mulMem m s) (srcRow 2 m) (18 + penalty m)

/-- `DIV HL,(m)`, rows 97, 137, 177, 217, 257 (R227). -/
def execDivAt (m : Mem) (s : State) : Res := done (divMem m s) (srcRow 3 m) (18 + penalty m)

/-- `MUL HL,r`, row 366 (R226). -/
def execMulR (p : Reg8) (s : State) : Res := done (mulBy (s.get8 p) s) 366 18

/-- `DIV HL,r`, row 367 (R227). -/
def execDivR (p : Reg8) (s : State) : Res := done (divBy (s.get8 p) s) 367 18

end Sys2Proof.Machine
end

