-- ==== Sys2Proof/Machine/Rotate.lean ====
section
/-! DEFINITION. Shifts, rotates and digit rotates (spec 43 R240 to R250): shared operations, then one meaning per row. -/

namespace Sys2Proof.Machine

/-- The one-byte A forms (R240): S, Z, V kept. -/
def rotA (op : RotOp) (s : State) : State :=
  let r := rotAFlags op (s.get8 .a) s.f
  (s.set8 .a r.1).setF r.2

/-- `ROT r` (R240). -/
def rotReg (op : RotOp) (p : Reg8) (s : State) : State :=
  let r := rotFlags op (s.get8 p) s.f
  (s.set8 p r.1).setF r.2

/-- `ROT (m)` (R240): one read, then one write. -/
def rotMem (op : RotOp) (m : Mem) (s : State) : State :=
  let a := addr m s
  let t := read8 a s
  let r := rotFlags op t.1 t.2.f
  (write8 a r.1 t.2).setF r.2

/-- The exchange of digits shared by RLD and RRD (R249, R250): `f` gives the new memory byte and the new A from the memory
byte and A. -/
def digitRotate (f : Byte → Byte → Byte × Byte) (m : Mem) (s : State) : State :=
  let a := addr m s
  let t := read8 a s
  let r := f t.1 (t.2.get8 .a)
  let s1 := (write8 a r.1 t.2).set8 .a r.2
  s1.setF (digitFlags r.2 s1.f)

/-- The digits of RLD (R249): memory gets t[3:0], a[3:0]; A gets a[7:4], t[7:4]. -/
def rldDigits (t a : Byte) : Byte × Byte :=
  (t.extractLsb' 0 4 ++ a.extractLsb' 0 4, a.extractLsb' 4 4 ++ t.extractLsb' 4 4)

/-- The digits of RRD (R250): memory gets a[3:0], t[7:4]; A gets a[7:4], t[3:0]. -/
def rrdDigits (t a : Byte) : Byte × Byte :=
  (a.extractLsb' 0 4 ++ t.extractLsb' 4 4, a.extractLsb' 4 4 ++ t.extractLsb' 0 4)

/-- `RLD (m)` (R249). -/
def rld (m : Mem) (s : State) : State := digitRotate rldDigits m s

/-- `RRD (m)` (R250). -/
def rrd (m : Mem) (s : State) : State := digitRotate rrdDigits m s

/-! ### One meaning per constructor -/

/-- `RLCA`, row 81 (R241). -/
def execRlca (s : State) : Res := done (rotA .rlc s) 81 2

/-- `RRCA`, row 82 (R242). -/
def execRrca (s : State) : Res := done (rotA .rrc s) 82 2

/-- `RLA`, row 83 (R243). -/
def execRla (s : State) : Res := done (rotA .rl s) 83 2

/-- `RRA`, row 84 (R244). -/
def execRra (s : State) : Res := done (rotA .rr s) 84 2

/-- `SLAA`, row 85 (R245). -/
def execSlaa (s : State) : Res := done (rotA .sla s) 85 2

/-- `SRAA`, row 86 (R246). -/
def execSraa (s : State) : Res := done (rotA .sra s) 86 2

/-- `SLLA`, row 87 (R247). -/
def execSlla (s : State) : Res := done (rotA .sll s) 87 2

/-- `SRLA`, row 88 (R248). -/
def execSrla (s : State) : Res := done (rotA .srl s) 88 2

/-- `RLD (m)`, rows 94, 134, 174, 214, 254 (R249). -/
def execRldAt (m : Mem) (s : State) : Res := done (rld m s) (srcRow 0 m) (12 + penalty m)

/-- `RRD (m)`, rows 95, 135, 175, 215, 255 (R250). -/
def execRrdAt (m : Mem) (s : State) : Res := done (rrd m s) (srcRow 1 m) (12 + penalty m)

/-- `RLC (m)`, rows 123, 163, 203, 243, 283 (R241). -/
def execRlcAt (m : Mem) (s : State) : Res := done (rotMem .rlc m s) (srcRow 29 m) (8 + penalty m)

/-- `RRC (m)`, rows 124, 164, 204, 244, 284 (R242). -/
def execRrcAt (m : Mem) (s : State) : Res := done (rotMem .rrc m s) (srcRow 30 m) (8 + penalty m)

/-- `RL (m)`, rows 125, 165, 205, 245, 285 (R243). -/
def execRlAt (m : Mem) (s : State) : Res := done (rotMem .rl m s) (srcRow 31 m) (8 + penalty m)

/-- `RR (m)`, rows 126, 166, 206, 246, 286 (R244). -/
def execRrAt (m : Mem) (s : State) : Res := done (rotMem .rr m s) (srcRow 32 m) (8 + penalty m)

/-- `SLA (m)`, rows 127, 167, 207, 247, 287 (R245). -/
def execSlaAt (m : Mem) (s : State) : Res := done (rotMem .sla m s) (srcRow 33 m) (8 + penalty m)

/-- `SRA (m)`, rows 128, 168, 208, 248, 288 (R246). -/
def execSraAt (m : Mem) (s : State) : Res := done (rotMem .sra m s) (srcRow 34 m) (8 + penalty m)

/-- `SLL (m)`, rows 129, 169, 209, 249, 289 (R247). -/
def execSllAt (m : Mem) (s : State) : Res := done (rotMem .sll m s) (srcRow 35 m) (8 + penalty m)

/-- `SRL (m)`, rows 130, 170, 210, 250, 290 (R248). -/
def execSrlAt (m : Mem) (s : State) : Res := done (rotMem .srl m s) (srcRow 36 m) (8 + penalty m)

/-- `RLC r`, row 404 (R241). -/
def execRlcR (p : Reg8) (s : State) : Res := done (rotReg .rlc p s) 404 4

/-- `RRC r`, row 405 (R242). -/
def execRrcR (p : Reg8) (s : State) : Res := done (rotReg .rrc p s) 405 4

/-- `RL r`, row 406 (R243). -/
def execRlR (p : Reg8) (s : State) : Res := done (rotReg .rl p s) 406 4

/-- `RR r`, row 407 (R244). -/
def execRrR (p : Reg8) (s : State) : Res := done (rotReg .rr p s) 407 4

/-- `SLA r`, row 408 (R245). -/
def execSlaR (p : Reg8) (s : State) : Res := done (rotReg .sla p s) 408 4

/-- `SRA r`, row 409 (R246). -/
def execSraR (p : Reg8) (s : State) : Res := done (rotReg .sra p s) 409 4

/-- `SLL r`, row 410 (R247). -/
def execSllR (p : Reg8) (s : State) : Res := done (rotReg .sll p s) 410 4

/-- `SRL r`, row 411 (R248). -/
def execSrlR (p : Reg8) (s : State) : Res := done (rotReg .srl p s) 411 4

end Sys2Proof.Machine
end

