-- ==== Sys2Proof/Machine/System.lean ====
section
/-! DEFINITION. System instructions (spec 44 R285 to R289): shared operations, then one meaning per row. -/

namespace Sys2Proof.Machine

/-- `HALT` (R286). -/
def halt (s : State) : State := s.setHalted true

/-- `DI` (R287): I and `after_ei` are cleared at once. -/
def di (s : State) : State := (s.setF (setI false s.f)).setAfterEi false

/-- `EI` (R288): `after_ei` is set; F is not changed by EI itself. -/
def ei (s : State) : State := s.setAfterEi true

/-- `SWI` (R289): the acceptance of source 0 with return address `PC_next`, whatever I, `after_ei` and `mask` hold. -/
def swi (s : State) : State := accept 0 s.pc s

/-! ### One meaning per constructor -/

/-- `NOP`, row 0 (R285). -/
def execNop (s : State) : Res := done s 0 2

/-- `HALT`, row 1 (R286). -/
def execHalt (s : State) : Res := done (halt s) 1 4

/-- `DI`, row 2 (R287). -/
def execDi (s : State) : Res := done (di s) 2 2

/-- `EI`, row 3 (R288). -/
def execEi (s : State) : Res := done (ei s) 3 2

/-- `SWI`, row 93 (R289). -/
def execSwi (s : State) : Res := done (swi s) 93 20

end Sys2Proof.Machine
end

