-- ==== Sys2Proof/Machine/Dispatch.lean ====
section
/-! DEFINITION. `exec`: one arm per constructor of `Instr`, one direct call of its meaning each. -/

namespace Sys2Proof.Machine

def exec (i : Instr) (s : State) : Host.Outcome State Fault Refusal :=
  match i with
  | .nop => Sys2Proof.Machine.execNop s
  | .halt => Sys2Proof.Machine.execHalt s
  | .di => Sys2Proof.Machine.execDi s
  | .ei => Sys2Proof.Machine.execEi s
  | .incx u => Sys2Proof.Machine.execIncx u s
  | .exDeHl => Sys2Proof.Machine.execExDeHl s
  | .exAfAf => Sys2Proof.Machine.execExAfAf s
  | .exx => Sys2Proof.Machine.execExx s
  | .daa => Sys2Proof.Machine.execDaa s
  | .rcf => Sys2Proof.Machine.execRcf s
  | .scf => Sys2Proof.Machine.execScf s
  | .ccf => Sys2Proof.Machine.execCcf s
  | .decx u => Sys2Proof.Machine.execDecx u s
  | .cpl => Sys2Proof.Machine.execCpl s
  | .neg => Sys2Proof.Machine.execNeg s
  | .mulN n => Sys2Proof.Machine.execMulN n s
  | .divN n => Sys2Proof.Machine.execDivN n s
  | .addXW x w => Sys2Proof.Machine.execAddXW x w s
  | .ldar st => Sys2Proof.Machine.execLdar st s
  | .djnz e => Sys2Proof.Machine.execDjnz e s
  | .djnzBc e => Sys2Proof.Machine.execDjnzBc e s
  | .jp w => Sys2Proof.Machine.execJp w s
  | .jrl st => Sys2Proof.Machine.execJrl st s
  | .call w => Sys2Proof.Machine.execCall w s
  | .callr st => Sys2Proof.Machine.execCallr st s
  | .ret => Sys2Proof.Machine.execRet s
  | .reti => Sys2Proof.Machine.execReti s
  | .ldAR r => Sys2Proof.Machine.execLdAR r s
  | .ldAAtU u => Sys2Proof.Machine.execLdAAtU u s
  | .ldRA r => Sys2Proof.Machine.execLdRA r s
  | .ldAtUA u => Sys2Proof.Machine.execLdAtUA u s
  | .ldRN r n => Sys2Proof.Machine.execLdRN r n s
  | .ldAtUN u n => Sys2Proof.Machine.execLdAtUN u n s
  | .ldGW g w => Sys2Proof.Machine.execLdGW g w s
  | .ldwAtU u w => Sys2Proof.Machine.execLdwAtU u w s
  | .ldHlG g => Sys2Proof.Machine.execLdHlG g s
  | .ldHlAtU u => Sys2Proof.Machine.execLdHlAtU u s
  | .ldGHl g => Sys2Proof.Machine.execLdGHl g s
  | .ldAtUHl u => Sys2Proof.Machine.execLdAtUHl u s
  | .push q => Sys2Proof.Machine.execPush q s
  | .pop q => Sys2Proof.Machine.execPop q s
  | .addAAtU u => Sys2Proof.Machine.execAddAAtU u s
  | .addAN n => Sys2Proof.Machine.execAddAN n s
  | .addHlAtU u => Sys2Proof.Machine.execAddHlAtU u s
  | .addHlW w => Sys2Proof.Machine.execAddHlW w s
  | .adcAAtU u => Sys2Proof.Machine.execAdcAAtU u s
  | .adcAN n => Sys2Proof.Machine.execAdcAN n s
  | .adcHlAtU u => Sys2Proof.Machine.execAdcHlAtU u s
  | .adcHlW w => Sys2Proof.Machine.execAdcHlW w s
  | .subAAtU u => Sys2Proof.Machine.execSubAAtU u s
  | .subAN n => Sys2Proof.Machine.execSubAN n s
  | .subHlAtU u => Sys2Proof.Machine.execSubHlAtU u s
  | .subHlW w => Sys2Proof.Machine.execSubHlW w s
  | .sbcAAtU u => Sys2Proof.Machine.execSbcAAtU u s
  | .sbcAN n => Sys2Proof.Machine.execSbcAN n s
  | .sbcHlAtU u => Sys2Proof.Machine.execSbcHlAtU u s
  | .sbcHlW w => Sys2Proof.Machine.execSbcHlW w s
  | .andAAtU u => Sys2Proof.Machine.execAndAAtU u s
  | .andAN n => Sys2Proof.Machine.execAndAN n s
  | .andHlAtU u => Sys2Proof.Machine.execAndHlAtU u s
  | .andHlW w => Sys2Proof.Machine.execAndHlW w s
  | .xorAAtU u => Sys2Proof.Machine.execXorAAtU u s
  | .xorAN n => Sys2Proof.Machine.execXorAN n s
  | .xorHlAtU u => Sys2Proof.Machine.execXorHlAtU u s
  | .xorHlW w => Sys2Proof.Machine.execXorHlW w s
  | .orAAtU u => Sys2Proof.Machine.execOrAAtU u s
  | .orAN n => Sys2Proof.Machine.execOrAN n s
  | .orHlAtU u => Sys2Proof.Machine.execOrHlAtU u s
  | .orHlW w => Sys2Proof.Machine.execOrHlW w s
  | .cpAAtU u => Sys2Proof.Machine.execCpAAtU u s
  | .cpAN n => Sys2Proof.Machine.execCpAN n s
  | .cpHlAtU u => Sys2Proof.Machine.execCpHlAtU u s
  | .cpHlW w => Sys2Proof.Machine.execCpHlW w s
  | .incR r => Sys2Proof.Machine.execIncR r s
  | .incAtU u => Sys2Proof.Machine.execIncAtU u s
  | .decR r => Sys2Proof.Machine.execDecR r s
  | .decAtU u => Sys2Proof.Machine.execDecAtU u s
  | .incG g => Sys2Proof.Machine.execIncG g s
  | .incwAtU u => Sys2Proof.Machine.execIncwAtU u s
  | .decG g => Sys2Proof.Machine.execDecG g s
  | .decwAtU u => Sys2Proof.Machine.execDecwAtU u s
  | .rlca => Sys2Proof.Machine.execRlca s
  | .rrca => Sys2Proof.Machine.execRrca s
  | .rla => Sys2Proof.Machine.execRla s
  | .rra => Sys2Proof.Machine.execRra s
  | .slaa => Sys2Proof.Machine.execSlaa s
  | .sraa => Sys2Proof.Machine.execSraa s
  | .slla => Sys2Proof.Machine.execSlla s
  | .srla => Sys2Proof.Machine.execSrla s
  | .bitAtU b u => Sys2Proof.Machine.execBitAtU b u s
  | .resAtU b u => Sys2Proof.Machine.execResAtU b u s
  | .setAtU b u => Sys2Proof.Machine.execSetAtU b u s
  | .jr cc e => Sys2Proof.Machine.execJr cc e s
  | .swi => Sys2Proof.Machine.execSwi s
  | .rldAt m => Sys2Proof.Machine.execRldAt m s
  | .rrdAt m => Sys2Proof.Machine.execRrdAt m s
  | .mulAt m => Sys2Proof.Machine.execMulAt m s
  | .divAt m => Sys2Proof.Machine.execDivAt m s
  | .addXAt x m => Sys2Proof.Machine.execAddXAt x m s
  | .tsetAt b m => Sys2Proof.Machine.execTsetAt b m s
  | .ldRAt r m => Sys2Proof.Machine.execLdRAt r m s
  | .ldGAt g m => Sys2Proof.Machine.execLdGAt g m s
  | .exAt m g => Sys2Proof.Machine.execExAt m g s
  | .addAAt m => Sys2Proof.Machine.execAddAAt m s
  | .addHlAt m => Sys2Proof.Machine.execAddHlAt m s
  | .adcAAt m => Sys2Proof.Machine.execAdcAAt m s
  | .adcHlAt m => Sys2Proof.Machine.execAdcHlAt m s
  | .subAAt m => Sys2Proof.Machine.execSubAAt m s
  | .subHlAt m => Sys2Proof.Machine.execSubHlAt m s
  | .sbcAAt m => Sys2Proof.Machine.execSbcAAt m s
  | .sbcHlAt m => Sys2Proof.Machine.execSbcHlAt m s
  | .andAAt m => Sys2Proof.Machine.execAndAAt m s
  | .andHlAt m => Sys2Proof.Machine.execAndHlAt m s
  | .xorAAt m => Sys2Proof.Machine.execXorAAt m s
  | .xorHlAt m => Sys2Proof.Machine.execXorHlAt m s
  | .orAAt m => Sys2Proof.Machine.execOrAAt m s
  | .orHlAt m => Sys2Proof.Machine.execOrHlAt m s
  | .cpAAt m => Sys2Proof.Machine.execCpAAt m s
  | .cpHlAt m => Sys2Proof.Machine.execCpHlAt m s
  | .incAt m => Sys2Proof.Machine.execIncAt m s
  | .decAt m => Sys2Proof.Machine.execDecAt m s
  | .incwAt m => Sys2Proof.Machine.execIncwAt m s
  | .decwAt m => Sys2Proof.Machine.execDecwAt m s
  | .rlcAt m => Sys2Proof.Machine.execRlcAt m s
  | .rrcAt m => Sys2Proof.Machine.execRrcAt m s
  | .rlAt m => Sys2Proof.Machine.execRlAt m s
  | .rrAt m => Sys2Proof.Machine.execRrAt m s
  | .slaAt m => Sys2Proof.Machine.execSlaAt m s
  | .sraAt m => Sys2Proof.Machine.execSraAt m s
  | .sllAt m => Sys2Proof.Machine.execSllAt m s
  | .srlAt m => Sys2Proof.Machine.execSrlAt m s
  | .bitAt b m => Sys2Proof.Machine.execBitAt b m s
  | .resAt b m => Sys2Proof.Machine.execResAt b m s
  | .setAt b m => Sys2Proof.Machine.execSetAt b m s
  | .ldAtR m r => Sys2Proof.Machine.execLdAtR m r s
  | .ldAtN m n => Sys2Proof.Machine.execLdAtN m n s
  | .ldwAt m w => Sys2Proof.Machine.execLdwAt m w s
  | .ldAtG m g => Sys2Proof.Machine.execLdAtG m g s
  | .addAtN m n => Sys2Proof.Machine.execAddAtN m n s
  | .adcAtN m n => Sys2Proof.Machine.execAdcAtN m n s
  | .subAtN m n => Sys2Proof.Machine.execSubAtN m n s
  | .sbcAtN m n => Sys2Proof.Machine.execSbcAtN m n s
  | .andAtN m n => Sys2Proof.Machine.execAndAtN m n s
  | .xorAtN m n => Sys2Proof.Machine.execXorAtN m n s
  | .orAtN m n => Sys2Proof.Machine.execOrAtN m n s
  | .cpAtN m n => Sys2Proof.Machine.execCpAtN m n s
  | .jpCc cc m => Sys2Proof.Machine.execJpCc cc m s
  | .callCc cc m => Sys2Proof.Machine.execCallCc cc m s
  | .lda g m => Sys2Proof.Machine.execLda g m s
  | .mulR p => Sys2Proof.Machine.execMulR p s
  | .divR p => Sys2Proof.Machine.execDivR p s
  | .addXG x p => Sys2Proof.Machine.execAddXG x p s
  | .tsetR b p => Sys2Proof.Machine.execTsetR b p s
  | .ldRR r p => Sys2Proof.Machine.execLdRR r p s
  | .ldGG g p => Sys2Proof.Machine.execLdGG g p s
  | .ldi => Sys2Proof.Machine.execLdi s
  | .ldir => Sys2Proof.Machine.execLdir s
  | .ldd => Sys2Proof.Machine.execLdd s
  | .lddr => Sys2Proof.Machine.execLddr s
  | .cpi => Sys2Proof.Machine.execCpi s
  | .cpir => Sys2Proof.Machine.execCpir s
  | .cpd => Sys2Proof.Machine.execCpd s
  | .cpdr => Sys2Proof.Machine.execCpdr s
  | .addAR p => Sys2Proof.Machine.execAddAR p s
  | .addRN p n => Sys2Proof.Machine.execAddRN p n s
  | .addHlG p => Sys2Proof.Machine.execAddHlG p s
  | .adcAR p => Sys2Proof.Machine.execAdcAR p s
  | .adcRN p n => Sys2Proof.Machine.execAdcRN p n s
  | .adcHlG p => Sys2Proof.Machine.execAdcHlG p s
  | .subAR p => Sys2Proof.Machine.execSubAR p s
  | .subRN p n => Sys2Proof.Machine.execSubRN p n s
  | .subHlG p => Sys2Proof.Machine.execSubHlG p s
  | .sbcAR p => Sys2Proof.Machine.execSbcAR p s
  | .sbcRN p n => Sys2Proof.Machine.execSbcRN p n s
  | .sbcHlG p => Sys2Proof.Machine.execSbcHlG p s
  | .andAR p => Sys2Proof.Machine.execAndAR p s
  | .andRN p n => Sys2Proof.Machine.execAndRN p n s
  | .andHlG p => Sys2Proof.Machine.execAndHlG p s
  | .xorAR p => Sys2Proof.Machine.execXorAR p s
  | .xorRN p n => Sys2Proof.Machine.execXorRN p n s
  | .xorHlG p => Sys2Proof.Machine.execXorHlG p s
  | .orAR p => Sys2Proof.Machine.execOrAR p s
  | .orRN p n => Sys2Proof.Machine.execOrRN p n s
  | .orHlG p => Sys2Proof.Machine.execOrHlG p s
  | .cpAR p => Sys2Proof.Machine.execCpAR p s
  | .cpRN p n => Sys2Proof.Machine.execCpRN p n s
  | .cpHlG p => Sys2Proof.Machine.execCpHlG p s
  | .rlcR p => Sys2Proof.Machine.execRlcR p s
  | .rrcR p => Sys2Proof.Machine.execRrcR p s
  | .rlR p => Sys2Proof.Machine.execRlR p s
  | .rrR p => Sys2Proof.Machine.execRrR p s
  | .slaR p => Sys2Proof.Machine.execSlaR p s
  | .sraR p => Sys2Proof.Machine.execSraR p s
  | .sllR p => Sys2Proof.Machine.execSllR p s
  | .srlR p => Sys2Proof.Machine.execSrlR p s
  | .bitR b p => Sys2Proof.Machine.execBitR b p s
  | .resR b p => Sys2Proof.Machine.execResR b p s
  | .setR b p => Sys2Proof.Machine.execSetR b p s
  | .retCc cc => Sys2Proof.Machine.execRetCc cc s

end Sys2Proof.Machine
end

