-- ==== Sys2Proof/WellFormed.lean ====
section
/-! DEFINITION. Well-formedness (spec 10 R32, 30 R90, R109, R117): the check of an instruction, and the checks of the raw
field codes and of the length that it is read from. The register types hold the registers of R32 and nothing else, so
the one instruction term that can be ill formed is LDA on an operand that is no indexed address. The decoder refuses
what these checks refuse (Laws/Decode.lean). -/

namespace Sys2Proof

/-- The operands of LDA (R109, R141): `ix+d` and `HL+A` only. -/
def Mem.isIndexed : Mem → Bool
  | .xd _ _ => true
  | .hla => true
  | _ => false

/-- R109: LDA exists under DST_XD and DST_HLA only; every other term is well formed by its types. -/
def Instr.wellFormed : Instr → Bool
  | .lda _ m => m.isIndexed
  | _ => true

/-- A field of an encoding with its raw code (R121: kinds `r`, `gg`, `qq`, `ix`; the other fields admit every code). -/
inductive RawField where
  | r (code : BitVec 3)
  | gg (code : BitVec 3)
  | qq (code : BitVec 3)
  | ix (code : BitVec 2)
deriving DecidableEq, Repr

/-- R32: code 7 is no `r`; codes 3 and 7 are no `gg` and no `qq`; code 3 is no `ix`. -/
def RawField.wellFormed : RawField → Bool
  | .r code => code != 7
  | .gg code => code != 3 && code != 7
  | .qq code => code != 3 && code != 7
  | .ix code => code != 3

/-- R90: an instruction is 1 to 6 bytes long. -/
def lengthWellFormed (n : Nat) : Bool := decide (1 ≤ n ∧ n ≤ 6)

end Sys2Proof
end

