-- ==== Sys2Proof/Decode.lean ====
section
/-! DEFINITION. Decode, total on any bytes, then the encoder (spec 30 R90 to R121, 10 R32).

The decoder is a tree that asks for one byte after another (R91: it fetches exactly the bytes of the instruction, in
ascending order, each once). The three sub-opcode maps and the base map are R107 to R110; an encoding they do not list is
UNKNOWN (R117), at the byte where the maps give up (R118). -/

namespace Sys2Proof

/-! ### Field codes (R32, R275, R99) -/

/-- The code of an `r` register (R32). -/
def Reg8.code : Reg8 → BitVec 3
  | .b => 0 | .c => 1 | .d => 2 | .e => 3 | .h => 4 | .l => 5 | .a => 6

/-- The `r` register of a code (R32); 7 is none. -/
def Reg8.ofCode (k : BitVec 3) : Option Reg8 :=
  match k.toNat with
  | 0 => some .b | 1 => some .c | 2 => some .d | 3 => some .e | 4 => some .h | 5 => some .l | 6 => some .a | _ => none

/-- The code of a `gg` register (R32). -/
def Reg16.code : Reg16 → BitVec 3
  | .bc => 0 | .de => 1 | .hl => 2 | .ix => 4 | .iy => 5 | .sp => 6

/-- The `gg` register of a code (R32); 3 and 7 are none. -/
def Reg16.ofCode (k : BitVec 3) : Option Reg16 :=
  match k.toNat with
  | 0 => some .bc | 1 => some .de | 2 => some .hl | 4 => some .ix | 5 => some .iy | 6 => some .sp | _ => none

/-- The code of a `qq` register (R32). -/
def RegQ.code : RegQ → BitVec 3
  | .bc => 0 | .de => 1 | .hl => 2 | .ix => 4 | .iy => 5 | .af => 6

/-- The `qq` register of a code (R32); 3 and 7 are none. -/
def RegQ.ofCode (k : BitVec 3) : Option RegQ :=
  match k.toNat with
  | 0 => some .bc | 1 => some .de | 2 => some .hl | 4 => some .ix | 5 => some .iy | 6 => some .af | _ => none

/-- The code of an `ix` register (R32). -/
def RegX.code : RegX → BitVec 2
  | .ix => 0 | .iy => 1 | .sp => 2

/-- The `ix` register of a code (R32); 3 is none. -/
def RegX.ofCode (k : BitVec 2) : Option RegX :=
  match k.toNat with
  | 0 => some .ix | 1 => some .iy | 2 => some .sp | _ => none

/-- The code of a condition (R275). -/
def Cond.code : Cond → BitVec 4
  | .f => 0 | .lt => 1 | .le => 2 | .ule => 3 | .ov => 4 | .mi => 5 | .z => 6 | .c => 7
  | .t => 8 | .ge => 9 | .gt => 10 | .ugt => 11 | .nov => 12 | .pl => 13 | .nz => 14 | .nc => 15

/-- The condition of a code (R275); every code is one. -/
def Cond.ofCode (k : BitVec 4) : Cond :=
  match k.toNat with
  | 0 => .f | 1 => .lt | 2 => .le | 3 => .ule | 4 => .ov | 5 => .mi | 6 => .z | 7 => .c
  | 8 => .t | 9 => .ge | 10 => .gt | 11 => .ugt | 12 => .nov | 13 => .pl | 14 => .nz | _ => .nc

/-- The ALU operation of an `ooo` field (R99). -/
def AluOp.ofCode (k : BitVec 3) : AluOp :=
  match k.toNat with
  | 0 => .add | 1 => .adc | 2 => .sub | 3 => .sbc | 4 => .and | 5 => .xor | 6 => .or | _ => .cp

/-- The shift or rotate of an `ooo` field (R99). -/
def RotOp.ofCode (k : BitVec 3) : RotOp :=
  match k.toNat with
  | 0 => .rlc | 1 => .rrc | 2 => .rl | 3 => .rr | 4 => .sla | 5 => .sra | 6 => .sll | _ => .srl

/-! ### The rows of one operation field (R99)

Each function names the row of an ALU, shift or block operation for one operand form. -/

/-- `ALU A,(m)` (R189). -/
def rowAluAAt (op : AluOp) (m : Mem) : Instr :=
  match op with
  | .add => .addAAt m
  | .adc => .adcAAt m
  | .sub => .subAAt m
  | .sbc => .sbcAAt m
  | .and => .andAAt m
  | .xor => .xorAAt m
  | .or => .orAAt m
  | .cp => .cpAAt m

/-- `ALU HL,(m)` (R205). -/
def rowAluHlAt (op : AluOp) (m : Mem) : Instr :=
  match op with
  | .add => .addHlAt m
  | .adc => .adcHlAt m
  | .sub => .subHlAt m
  | .sbc => .sbcHlAt m
  | .and => .andHlAt m
  | .xor => .xorHlAt m
  | .or => .orHlAt m
  | .cp => .cpHlAt m

/-- `ALU (m),n` (R189). -/
def rowAluAtN (op : AluOp) (m : Mem) (n : Byte) : Instr :=
  match op with
  | .add => .addAtN m n
  | .adc => .adcAtN m n
  | .sub => .subAtN m n
  | .sbc => .sbcAtN m n
  | .and => .andAtN m n
  | .xor => .xorAtN m n
  | .or => .orAtN m n
  | .cp => .cpAtN m n

/-- `ROT (m)` (R240). -/
def rowRotAt (op : RotOp) (m : Mem) : Instr :=
  match op with
  | .rlc => .rlcAt m
  | .rrc => .rrcAt m
  | .rl => .rlAt m
  | .rr => .rrAt m
  | .sla => .slaAt m
  | .sra => .sraAt m
  | .sll => .sllAt m
  | .srl => .srlAt m

/-- `ALU A,(0FF00h+u)`, BASE (R189). -/
def rowAluAAtU (op : AluOp) (u : Byte) : Instr :=
  match op with
  | .add => .addAAtU u
  | .adc => .adcAAtU u
  | .sub => .subAAtU u
  | .sbc => .sbcAAtU u
  | .and => .andAAtU u
  | .xor => .xorAAtU u
  | .or => .orAAtU u
  | .cp => .cpAAtU u

/-- `ALU A,n` (R189). -/
def rowAluAN (op : AluOp) (n : Byte) : Instr :=
  match op with
  | .add => .addAN n
  | .adc => .adcAN n
  | .sub => .subAN n
  | .sbc => .sbcAN n
  | .and => .andAN n
  | .xor => .xorAN n
  | .or => .orAN n
  | .cp => .cpAN n

/-- `ALU HL,(0FF00h+u)`, BASE (R205). -/
def rowAluHlAtU (op : AluOp) (u : Byte) : Instr :=
  match op with
  | .add => .addHlAtU u
  | .adc => .adcHlAtU u
  | .sub => .subHlAtU u
  | .sbc => .sbcHlAtU u
  | .and => .andHlAtU u
  | .xor => .xorHlAtU u
  | .or => .orHlAtU u
  | .cp => .cpHlAtU u

/-- `ALU HL,mn` (R205). -/
def rowAluHlW (op : AluOp) (w : Word) : Instr :=
  match op with
  | .add => .addHlW w
  | .adc => .adcHlW w
  | .sub => .subHlW w
  | .sbc => .sbcHlW w
  | .and => .andHlW w
  | .xor => .xorHlW w
  | .or => .orHlW w
  | .cp => .cpHlW w

/-- `ALU A,r` (R189). -/
def rowAluAR (op : AluOp) (p : Reg8) : Instr :=
  match op with
  | .add => .addAR p
  | .adc => .adcAR p
  | .sub => .subAR p
  | .sbc => .sbcAR p
  | .and => .andAR p
  | .xor => .xorAR p
  | .or => .orAR p
  | .cp => .cpAR p

/-- `ALU r,n` (R189). -/
def rowAluRN (op : AluOp) (p : Reg8) (n : Byte) : Instr :=
  match op with
  | .add => .addRN p n
  | .adc => .adcRN p n
  | .sub => .subRN p n
  | .sbc => .sbcRN p n
  | .and => .andRN p n
  | .xor => .xorRN p n
  | .or => .orRN p n
  | .cp => .cpRN p n

/-- `ALU HL,gg` (R205). -/
def rowAluHlG (op : AluOp) (p : Reg16) : Instr :=
  match op with
  | .add => .addHlG p
  | .adc => .adcHlG p
  | .sub => .subHlG p
  | .sbc => .sbcHlG p
  | .and => .andHlG p
  | .xor => .xorHlG p
  | .or => .orHlG p
  | .cp => .cpHlG p

/-- RLCA … SRLA (R240). -/
def rowRotA (op : RotOp) : Instr :=
  match op with
  | .rlc => .rlca
  | .rrc => .rrca
  | .rl => .rla
  | .rr => .rra
  | .sla => .slaa
  | .sra => .sraa
  | .sll => .slla
  | .srl => .srla

/-- `ROT r` (R240). -/
def rowRotR (op : RotOp) (p : Reg8) : Instr :=
  match op with
  | .rlc => .rlcR p
  | .rrc => .rrcR p
  | .rl => .rlR p
  | .rr => .rrR p
  | .sla => .slaR p
  | .sra => .sraR p
  | .sll => .sllR p
  | .srl => .srlR p

/-- LDI … CPDR (R99). -/
def rowBlock (k : BitVec 3) : Instr :=
  match k.toNat with
  | 0 => .ldi | 1 => .ldir | 2 => .ldd | 3 => .lddr | 4 => .cpi | 5 => .cpir | 6 => .cpd | _ => .cpdr

/-! ### The decoder -/

/-- Where decoding stands: an instruction, an encoding marked UNKNOWN (R117), or a byte still to be fetched (R91). -/
inductive Dec where
  | instr (i : Instr)
  | unknown
  | more (k : Byte → Dec)

/-- An instruction, or UNKNOWN where a field holds a code that is no register (R117). -/
def Dec.ofOption : Option Instr → Dec
  | some i => .instr i
  | none => .unknown

/-- Fetch one byte and go on. -/
def Dec.byte (k : Byte → Instr) : Dec := .more fun n => .instr (k n)

/-- Fetch a 16-bit value, its low byte first (R98, R106), and go on. -/
def Dec.word (k : Word → Dec) : Dec := .more fun l => .more fun h => k (joinBytes h l)

/-- Bits 7..3 of an opcode byte. -/
def high5 (b : Byte) : Nat := (b.extractLsb' 3 5).toNat

/-- Bits 2..0 of an opcode byte: the fields `r`, `g`, `q`, `p`, `b`, `o`. -/
def low3 (b : Byte) : BitVec 3 := b.extractLsb' 0 3

/-- Bits 1..0 of an opcode byte: the field `x` or `y`. -/
def low2 (b : Byte) : BitVec 2 := b.extractLsb' 0 2

/-- Bits 3..0 of an opcode byte: the field `c`. -/
def low4 (b : Byte) : BitVec 4 := b.extractLsb' 0 4

/-- An instruction on the 8-bit register of a code, or UNKNOWN (R117). -/
def onReg8 (p : BitVec 3) (k : Reg8 → Instr) : Dec := .ofOption ((Reg8.ofCode p).map k)

/-- An instruction on the 16-bit register of a code, or UNKNOWN (R117). -/
def onReg16 (p : BitVec 3) (k : Reg16 → Instr) : Dec := .ofOption ((Reg16.ofCode p).map k)

/-- An instruction on the 8-bit register of a code and an immediate, the code looked at before the immediate is fetched
(R118), or UNKNOWN (R117). -/
def onReg8Byte (p : BitVec 3) (k : Reg8 → Byte → Instr) : Dec :=
  match Reg8.ofCode p with
  | some r => .byte (k r)
  | none => .unknown

/-- The SRC sub-opcode map (R108) for the memory operand `m` of the SRC bytes before. -/
def decodeSrc (m : Mem) (sub : Byte) : Dec :=
  match high5 sub, (low3 sub).toNat with
  | 0x02, 0 => .instr (.rldAt m)
  | 0x02, 1 => .instr (.rrdAt m)
  | 0x02, 2 => .instr (.mulAt m)
  | 0x02, 3 => .instr (.divAt m)
  | 0x02, _ => .ofOption ((RegX.ofCode (low2 sub)).map fun x => .addXAt x m)
  | 0x03, _ => .instr (.tsetAt (low3 sub) m)
  | 0x05, _ => onReg8 (low3 sub) (.ldRAt · m)
  | 0x09, _ => onReg16 (low3 sub) (.ldGAt · m)
  | 0x0A, _ => onReg16 (low3 sub) (.exAt m)
  | 0x0C, _ => .instr (rowAluAAt (AluOp.ofCode (low3 sub)) m)
  | 0x0E, _ => .instr (rowAluHlAt (AluOp.ofCode (low3 sub)) m)
  | 0x10, 7 => .instr (.incAt m)
  | 0x11, 7 => .instr (.decAt m)
  | 0x12, 7 => .instr (.incwAt m)
  | 0x13, 7 => .instr (.decwAt m)
  | 0x14, _ => .instr (rowRotAt (RotOp.ofCode (low3 sub)) m)
  | 0x15, _ => .instr (.bitAt (low3 sub) m)
  | 0x16, _ => .instr (.resAt (low3 sub) m)
  | 0x17, _ => .instr (.setAt (low3 sub) m)
  | _, _ => .unknown

/-- The DST sub-opcode map (R109) for the memory operand `m` of the DST bytes before. -/
def decodeDst (m : Mem) (sub : Byte) : Dec :=
  match high5 sub, (low3 sub).toNat with
  | 0x04, _ => onReg8 (low3 sub) (.ldAtR m)
  | 0x06, 7 => .byte (.ldAtN m)
  | 0x07, 7 => .word fun w => .instr (.ldwAt m w)
  | 0x07, _ => if m.isIndexed then onReg16 (low3 sub) (.lda · m) else .unknown
  | 0x08, _ => onReg16 (low3 sub) (.ldAtG m)
  | 0x0D, _ => .byte (rowAluAtN (AluOp.ofCode (low3 sub)) m)
  | 0x18, _ => .instr (.jpCc (Cond.ofCode (low4 sub)) m)
  | 0x19, _ => .instr (.jpCc (Cond.ofCode (low4 sub)) m)
  | 0x1A, _ => .instr (.callCc (Cond.ofCode (low4 sub)) m)
  | 0x1B, _ => .instr (.callCc (Cond.ofCode (low4 sub)) m)
  | _, _ => .unknown

/-- The REG sub-opcode map (R110) for the register code `p` of the REG byte. -/
def decodeReg (p : BitVec 3) (sub : Byte) : Dec :=
  match high5 sub, (low3 sub).toNat with
  | 0x02, 0 => .unknown
  | 0x02, 1 => .unknown
  | 0x02, 2 => onReg8 p .mulR
  | 0x02, 3 => onReg8 p .divR
  | 0x02, _ => .ofOption ((RegX.ofCode (low2 sub)).bind fun x => (Reg16.ofCode p).map fun g => .addXG x g)
  | 0x03, _ => onReg8 p (.tsetR (low3 sub))
  | 0x06, _ => .ofOption ((Reg8.ofCode (low3 sub)).bind fun r => (Reg8.ofCode p).map fun q => .ldRR r q)
  | 0x07, _ => .ofOption ((Reg16.ofCode (low3 sub)).bind fun g => (Reg16.ofCode p).map fun q => .ldGG g q)
  | 0x0B, _ => if p = 6 then .instr (rowBlock (low3 sub)) else .unknown
  | 0x0C, _ => onReg8 p (rowAluAR (AluOp.ofCode (low3 sub)))
  | 0x0D, _ => onReg8Byte p (rowAluRN (AluOp.ofCode (low3 sub)))
  | 0x0E, _ => onReg16 p (rowAluHlG (AluOp.ofCode (low3 sub)))
  | 0x14, _ => onReg8 p (rowRotR (RotOp.ofCode (low3 sub)))
  | 0x15, _ => onReg8 p (.bitR (low3 sub))
  | 0x16, _ => onReg8 p (.resR (low3 sub))
  | 0x17, _ => onReg8 p (.setR (low3 sub))
  | 0x1A, _ => if p = 6 then .instr (.retCc (Cond.ofCode (low4 sub))) else .unknown
  | 0x1B, _ => if p = 6 then .instr (.retCc (Cond.ofCode (low4 sub))) else .unknown
  | _, _ => .unknown

/-- The base map (R107), by the first byte. -/
def decodeFirst (b : Byte) : Dec :=
  match high5 b, (low3 b).toNat with
  | 0x00, 0 => .instr .nop
  | 0x00, 1 => .instr .halt
  | 0x00, 2 => .instr .di
  | 0x00, 3 => .instr .ei
  | 0x00, 7 => .byte .incx
  | 0x00, _ => .unknown
  | 0x01, 0 => .instr .exDeHl
  | 0x01, 1 => .instr .exAfAf
  | 0x01, 2 => .instr .exx
  | 0x01, 3 => .instr .daa
  | 0x01, 4 => .instr .rcf
  | 0x01, 5 => .instr .scf
  | 0x01, 6 => .instr .ccf
  | 0x01, _ => .byte .decx
  | 0x02, 0 => .instr .cpl
  | 0x02, 1 => .instr .neg
  | 0x02, 2 => .byte .mulN
  | 0x02, 3 => .byte .divN
  | 0x02, 7 => .word fun w => .instr (.ldar w)
  | 0x02, _ => .word fun w => .ofOption ((RegX.ofCode (low2 b)).map fun x => .addXW x w)
  | 0x03, 0 => .byte .djnz
  | 0x03, 1 => .byte .djnzBc
  | 0x03, 2 => .word fun w => .instr (.jp w)
  | 0x03, 3 => .word fun w => .instr (.jrl w)
  | 0x03, 4 => .word fun w => .instr (.call w)
  | 0x03, 5 => .word fun w => .instr (.callr w)
  | 0x03, 6 => .instr .ret
  | 0x03, _ => .instr .reti
  | 0x04, 7 => .byte .ldAAtU
  | 0x04, _ => onReg8 (low3 b) .ldAR
  | 0x05, 7 => .byte .ldAtUA
  | 0x05, _ => onReg8 (low3 b) .ldRA
  | 0x06, 7 => .more fun u => .byte (.ldAtUN u)
  | 0x06, _ => onReg8Byte (low3 b) .ldRN
  | 0x07, 7 => .more fun u => .word fun w => .instr (.ldwAtU u w)
  | 0x07, _ =>
    match Reg16.ofCode (low3 b) with
    | some g => .word fun w => .instr (.ldGW g w)
    | none => .unknown
  | 0x08, 7 => .byte .ldHlAtU
  | 0x08, _ => onReg16 (low3 b) .ldHlG
  | 0x09, 7 => .byte .ldAtUHl
  | 0x09, _ => onReg16 (low3 b) .ldGHl
  | 0x0A, _ => .ofOption ((RegQ.ofCode (low3 b)).map .push)
  | 0x0B, _ => .ofOption ((RegQ.ofCode (low3 b)).map .pop)
  | 0x0C, _ => .byte (rowAluAAtU (AluOp.ofCode (low3 b)))
  | 0x0D, _ => .byte (rowAluAN (AluOp.ofCode (low3 b)))
  | 0x0E, _ => .byte (rowAluHlAtU (AluOp.ofCode (low3 b)))
  | 0x0F, _ => .word fun w => .instr (rowAluHlW (AluOp.ofCode (low3 b)) w)
  | 0x10, 7 => .byte .incAtU
  | 0x10, _ => onReg8 (low3 b) .incR
  | 0x11, 7 => .byte .decAtU
  | 0x11, _ => onReg8 (low3 b) .decR
  | 0x12, 7 => .byte .incwAtU
  | 0x12, _ => onReg16 (low3 b) .incG
  | 0x13, 7 => .byte .decwAtU
  | 0x13, _ => onReg16 (low3 b) .decG
  | 0x14, _ => .instr (rowRotA (RotOp.ofCode (low3 b)))
  | 0x15, _ => .byte (.bitAtU (low3 b))
  | 0x16, _ => .byte (.resAtU (low3 b))
  | 0x17, _ => .byte (.setAtU (low3 b))
  | 0x18, _ => .byte (.jr (Cond.ofCode (low4 b)))
  | 0x19, _ => .byte (.jr (Cond.ofCode (low4 b)))
  | 0x1C, 3 => .word fun a => .more (decodeSrc (.mn a))
  | 0x1C, 7 => .more fun u => .more (decodeSrc (.dp u))
  | 0x1C, _ =>
    match Reg16.ofCode (low3 b) with
    | some p => .more (decodeSrc (.gg p))
    | none => .unknown
  | 0x1D, 3 => .word fun a => .more (decodeDst (.mn a))
  | 0x1D, 7 => .more fun u => .more (decodeDst (.dp u))
  | 0x1D, _ =>
    match Reg16.ofCode (low3 b) with
    | some p => .more (decodeDst (.gg p))
    | none => .unknown
  | 0x1E, 0 => .more fun d => .more (decodeSrc (.xd .ix d))
  | 0x1E, 1 => .more fun d => .more (decodeSrc (.xd .iy d))
  | 0x1E, 2 => .more fun d => .more (decodeSrc (.xd .sp d))
  | 0x1E, 3 => .more (decodeSrc .hla)
  | 0x1E, 4 => .more fun d => .more (decodeDst (.xd .ix d))
  | 0x1E, 5 => .more fun d => .more (decodeDst (.xd .iy d))
  | 0x1E, 6 => .more fun d => .more (decodeDst (.xd .sp d))
  | 0x1E, _ => .more (decodeDst .hla)
  | 0x1F, 7 => .instr .swi
  | 0x1F, _ => .more (decodeReg (low3 b))
  | _, _ => .unknown

/-- What a list of bytes decodes to: an instruction and its length, UNKNOWN and its length (R118), or too few bytes. -/
inductive Decoded where
  | instr (i : Instr) (len : Nat)
  | unknown (len : Nat)
  | short
deriving DecidableEq, Repr

/-- Give bytes to the decoder; `n` bytes were given before. -/
def Dec.feed : Dec → List Byte → Nat → Decoded
  | .instr i, _, n => .instr i n
  | .unknown, _, n => .unknown n
  | .more _, [], _ => .short
  | .more k, b :: bs, n => (k b).feed bs (n + 1)

/-- The decoder, total on any bytes. -/
def decode (bs : List Byte) : Decoded := (Dec.more decodeFirst).feed bs 0

/-- The first `n` bytes of a table word: byte 0 is the MOST significant of its `n` bytes, as the rows of
spec/opcode_table.json number them (R121; log entry 1). -/
def wordBytes : Nat → Nat → List Byte
  | 0, _ => []
  | n + 1, w => BitVec.ofNat 8 (w / 256 ^ n) :: wordBytes n w

/-- An instruction of `nbits` bits as six bytes, zeros after it. -/
def tableBytes (nbits w : Nat) : List Byte := (wordBytes (nbits / 8) w ++ List.replicate 6 0).take 6

/-- The instruction the decoder reads from a word of the opcode table. -/
def decodeTableWord (nbits w : Nat) : Option Instr :=
  match decode (tableBytes nbits w) with
  | .instr i _ => some i
  | _ => none

/-! ### The encoder (R94 to R98) -/

/-- The bytes of a SRC memory operand (R95). -/
def srcBytes : Mem → List Byte
  | .gg p => [0b11100#5 ++ p.code]
  | .mn a => [0xE3, loByte a, hiByte a]
  | .dp u => [0xE7, u]
  | .xd y d => [0b111100#6 ++ y.code, d]
  | .hla => [0xF3]

/-- The bytes of a DST memory operand (R96). -/
def dstBytes : Mem → List Byte
  | .gg p => [0b11101#5 ++ p.code]
  | .mn a => [0xEB, loByte a, hiByte a]
  | .dp u => [0xEF, u]
  | .xd y d => [0b111101#6 ++ y.code, d]
  | .hla => [0xF7]

/-- The bytes of an instruction, byte 0 first (R94 to R98, R107 to R110). -/
def encode (i : Instr) : List Byte :=
  match i with
  | .nop => [0x00]
  | .halt => [0x01]
  | .di => [0x02]
  | .ei => [0x03]
  | .incx u => [0x07, u]
  | .exDeHl => [0x08]
  | .exAfAf => [0x09]
  | .exx => [0x0A]
  | .daa => [0x0B]
  | .rcf => [0x0C]
  | .scf => [0x0D]
  | .ccf => [0x0E]
  | .decx u => [0x0F, u]
  | .cpl => [0x10]
  | .neg => [0x11]
  | .mulN n => [0x12, n]
  | .divN n => [0x13, n]
  | .addXW x w => [0b000101#6 ++ x.code, loByte w, hiByte w]
  | .ldar st => [0x17, loByte st, hiByte st]
  | .djnz e => [0x18, e]
  | .djnzBc e => [0x19, e]
  | .jp w => [0x1A, loByte w, hiByte w]
  | .jrl st => [0x1B, loByte st, hiByte st]
  | .call w => [0x1C, loByte w, hiByte w]
  | .callr st => [0x1D, loByte st, hiByte st]
  | .ret => [0x1E]
  | .reti => [0x1F]
  | .ldAR r => [0b00100#5 ++ r.code]
  | .ldAAtU u => [0x27, u]
  | .ldRA r => [0b00101#5 ++ r.code]
  | .ldAtUA u => [0x2F, u]
  | .ldRN r n => [0b00110#5 ++ r.code, n]
  | .ldAtUN u n => [0x37, u, n]
  | .ldGW g w => [0b00111#5 ++ g.code, loByte w, hiByte w]
  | .ldwAtU u w => [0x3F, u, loByte w, hiByte w]
  | .ldHlG g => [0b01000#5 ++ g.code]
  | .ldHlAtU u => [0x47, u]
  | .ldGHl g => [0b01001#5 ++ g.code]
  | .ldAtUHl u => [0x4F, u]
  | .push q => [0b01010#5 ++ q.code]
  | .pop q => [0b01011#5 ++ q.code]
  | .addAAtU u => [0x60, u]
  | .addAN n => [0x68, n]
  | .addHlAtU u => [0x70, u]
  | .addHlW w => [0x78, loByte w, hiByte w]
  | .adcAAtU u => [0x61, u]
  | .adcAN n => [0x69, n]
  | .adcHlAtU u => [0x71, u]
  | .adcHlW w => [0x79, loByte w, hiByte w]
  | .subAAtU u => [0x62, u]
  | .subAN n => [0x6A, n]
  | .subHlAtU u => [0x72, u]
  | .subHlW w => [0x7A, loByte w, hiByte w]
  | .sbcAAtU u => [0x63, u]
  | .sbcAN n => [0x6B, n]
  | .sbcHlAtU u => [0x73, u]
  | .sbcHlW w => [0x7B, loByte w, hiByte w]
  | .andAAtU u => [0x64, u]
  | .andAN n => [0x6C, n]
  | .andHlAtU u => [0x74, u]
  | .andHlW w => [0x7C, loByte w, hiByte w]
  | .xorAAtU u => [0x65, u]
  | .xorAN n => [0x6D, n]
  | .xorHlAtU u => [0x75, u]
  | .xorHlW w => [0x7D, loByte w, hiByte w]
  | .orAAtU u => [0x66, u]
  | .orAN n => [0x6E, n]
  | .orHlAtU u => [0x76, u]
  | .orHlW w => [0x7E, loByte w, hiByte w]
  | .cpAAtU u => [0x67, u]
  | .cpAN n => [0x6F, n]
  | .cpHlAtU u => [0x77, u]
  | .cpHlW w => [0x7F, loByte w, hiByte w]
  | .incR r => [0b10000#5 ++ r.code]
  | .incAtU u => [0x87, u]
  | .decR r => [0b10001#5 ++ r.code]
  | .decAtU u => [0x8F, u]
  | .incG g => [0b10010#5 ++ g.code]
  | .incwAtU u => [0x97, u]
  | .decG g => [0b10011#5 ++ g.code]
  | .decwAtU u => [0x9F, u]
  | .rlca => [0xA0]
  | .rrca => [0xA1]
  | .rla => [0xA2]
  | .rra => [0xA3]
  | .slaa => [0xA4]
  | .sraa => [0xA5]
  | .slla => [0xA6]
  | .srla => [0xA7]
  | .bitAtU b u => [0b10101#5 ++ b, u]
  | .resAtU b u => [0b10110#5 ++ b, u]
  | .setAtU b u => [0b10111#5 ++ b, u]
  | .jr cc e => [0b1100#4 ++ cc.code, e]
  | .swi => [0xFF]
  | .rldAt m => srcBytes m ++ [0x10]
  | .rrdAt m => srcBytes m ++ [0x11]
  | .mulAt m => srcBytes m ++ [0x12]
  | .divAt m => srcBytes m ++ [0x13]
  | .addXAt x m => srcBytes m ++ [0b000101#6 ++ x.code]
  | .tsetAt b m => srcBytes m ++ [0b00011#5 ++ b]
  | .ldRAt r m => srcBytes m ++ [0b00101#5 ++ r.code]
  | .ldGAt g m => srcBytes m ++ [0b01001#5 ++ g.code]
  | .exAt m g => srcBytes m ++ [0b01010#5 ++ g.code]
  | .addAAt m => srcBytes m ++ [0x60]
  | .addHlAt m => srcBytes m ++ [0x70]
  | .adcAAt m => srcBytes m ++ [0x61]
  | .adcHlAt m => srcBytes m ++ [0x71]
  | .subAAt m => srcBytes m ++ [0x62]
  | .subHlAt m => srcBytes m ++ [0x72]
  | .sbcAAt m => srcBytes m ++ [0x63]
  | .sbcHlAt m => srcBytes m ++ [0x73]
  | .andAAt m => srcBytes m ++ [0x64]
  | .andHlAt m => srcBytes m ++ [0x74]
  | .xorAAt m => srcBytes m ++ [0x65]
  | .xorHlAt m => srcBytes m ++ [0x75]
  | .orAAt m => srcBytes m ++ [0x66]
  | .orHlAt m => srcBytes m ++ [0x76]
  | .cpAAt m => srcBytes m ++ [0x67]
  | .cpHlAt m => srcBytes m ++ [0x77]
  | .incAt m => srcBytes m ++ [0x87]
  | .decAt m => srcBytes m ++ [0x8F]
  | .incwAt m => srcBytes m ++ [0x97]
  | .decwAt m => srcBytes m ++ [0x9F]
  | .rlcAt m => srcBytes m ++ [0xA0]
  | .rrcAt m => srcBytes m ++ [0xA1]
  | .rlAt m => srcBytes m ++ [0xA2]
  | .rrAt m => srcBytes m ++ [0xA3]
  | .slaAt m => srcBytes m ++ [0xA4]
  | .sraAt m => srcBytes m ++ [0xA5]
  | .sllAt m => srcBytes m ++ [0xA6]
  | .srlAt m => srcBytes m ++ [0xA7]
  | .bitAt b m => srcBytes m ++ [0b10101#5 ++ b]
  | .resAt b m => srcBytes m ++ [0b10110#5 ++ b]
  | .setAt b m => srcBytes m ++ [0b10111#5 ++ b]
  | .ldAtR m r => dstBytes m ++ [0b00100#5 ++ r.code]
  | .ldAtN m n => dstBytes m ++ [0x37, n]
  | .ldwAt m w => dstBytes m ++ [0x3F, loByte w, hiByte w]
  | .ldAtG m g => dstBytes m ++ [0b01000#5 ++ g.code]
  | .addAtN m n => dstBytes m ++ [0x68, n]
  | .adcAtN m n => dstBytes m ++ [0x69, n]
  | .subAtN m n => dstBytes m ++ [0x6A, n]
  | .sbcAtN m n => dstBytes m ++ [0x6B, n]
  | .andAtN m n => dstBytes m ++ [0x6C, n]
  | .xorAtN m n => dstBytes m ++ [0x6D, n]
  | .orAtN m n => dstBytes m ++ [0x6E, n]
  | .cpAtN m n => dstBytes m ++ [0x6F, n]
  | .jpCc cc m => dstBytes m ++ [0b1100#4 ++ cc.code]
  | .callCc cc m => dstBytes m ++ [0b1101#4 ++ cc.code]
  | .lda g m => dstBytes m ++ [0b00111#5 ++ g.code]
  | .mulR p => [0b11111#5 ++ p.code, 0x12]
  | .divR p => [0b11111#5 ++ p.code, 0x13]
  | .addXG x p => [0b11111#5 ++ p.code, 0b000101#6 ++ x.code]
  | .tsetR b p => [0b11111#5 ++ p.code, 0b00011#5 ++ b]
  | .ldRR r p => [0b11111#5 ++ p.code, 0b00110#5 ++ r.code]
  | .ldGG g p => [0b11111#5 ++ p.code, 0b00111#5 ++ g.code]
  | .ldi => [0xFE, 0x58]
  | .ldir => [0xFE, 0x59]
  | .ldd => [0xFE, 0x5A]
  | .lddr => [0xFE, 0x5B]
  | .cpi => [0xFE, 0x5C]
  | .cpir => [0xFE, 0x5D]
  | .cpd => [0xFE, 0x5E]
  | .cpdr => [0xFE, 0x5F]
  | .addAR p => [0b11111#5 ++ p.code, 0x60]
  | .addRN p n => [0b11111#5 ++ p.code, 0x68, n]
  | .addHlG p => [0b11111#5 ++ p.code, 0x70]
  | .adcAR p => [0b11111#5 ++ p.code, 0x61]
  | .adcRN p n => [0b11111#5 ++ p.code, 0x69, n]
  | .adcHlG p => [0b11111#5 ++ p.code, 0x71]
  | .subAR p => [0b11111#5 ++ p.code, 0x62]
  | .subRN p n => [0b11111#5 ++ p.code, 0x6A, n]
  | .subHlG p => [0b11111#5 ++ p.code, 0x72]
  | .sbcAR p => [0b11111#5 ++ p.code, 0x63]
  | .sbcRN p n => [0b11111#5 ++ p.code, 0x6B, n]
  | .sbcHlG p => [0b11111#5 ++ p.code, 0x73]
  | .andAR p => [0b11111#5 ++ p.code, 0x64]
  | .andRN p n => [0b11111#5 ++ p.code, 0x6C, n]
  | .andHlG p => [0b11111#5 ++ p.code, 0x74]
  | .xorAR p => [0b11111#5 ++ p.code, 0x65]
  | .xorRN p n => [0b11111#5 ++ p.code, 0x6D, n]
  | .xorHlG p => [0b11111#5 ++ p.code, 0x75]
  | .orAR p => [0b11111#5 ++ p.code, 0x66]
  | .orRN p n => [0b11111#5 ++ p.code, 0x6E, n]
  | .orHlG p => [0b11111#5 ++ p.code, 0x76]
  | .cpAR p => [0b11111#5 ++ p.code, 0x67]
  | .cpRN p n => [0b11111#5 ++ p.code, 0x6F, n]
  | .cpHlG p => [0b11111#5 ++ p.code, 0x77]
  | .rlcR p => [0b11111#5 ++ p.code, 0xA0]
  | .rrcR p => [0b11111#5 ++ p.code, 0xA1]
  | .rlR p => [0b11111#5 ++ p.code, 0xA2]
  | .rrR p => [0b11111#5 ++ p.code, 0xA3]
  | .slaR p => [0b11111#5 ++ p.code, 0xA4]
  | .sraR p => [0b11111#5 ++ p.code, 0xA5]
  | .sllR p => [0b11111#5 ++ p.code, 0xA6]
  | .srlR p => [0b11111#5 ++ p.code, 0xA7]
  | .bitR b p => [0b11111#5 ++ p.code, 0b10101#5 ++ b]
  | .resR b p => [0b11111#5 ++ p.code, 0b10110#5 ++ b]
  | .setR b p => [0b11111#5 ++ p.code, 0b10111#5 ++ b]
  | .retCc cc => [0xFE, 0b1101#4 ++ cc.code]

end Sys2Proof
end

