-- ==== Sys2Proof/Machine/Fetch.lean ====
section
/-! DEFINITION. Fetching an instruction's bytes (spec 30 R91, 20 R63, R83): each byte is read through the access router when
the decoder asks for it, and PC moves past it. -/

namespace Sys2Proof.Machine

/-- `Fetch8()` (R91). -/
def fetch8 (s : State) : Byte × State :=
  let r := read8 (bank0 s.pc) s
  (r.1, r.2.setPc (r.2.pc + 1))

/-- Give the decoder the bytes it asks for; `none` is an encoding marked UNKNOWN. Afterwards PC is `PC_next`. -/
def runDec : Dec → State → Option Instr × State
  | .instr i, s => (some i, s)
  | .unknown, s => (none, s)
  | .more k, s => runDec (k (fetch8 s).1) (fetch8 s).2

/-- Fetch and decode one instruction at PC (R91, R117, R118). -/
def fetchDecode (s : State) : Option Instr × State := runDec (.more decodeFirst) s

/-- Store bytes behind the adapter from an address of bank 0 on, wrapping as PC does (R27). -/
def placeBytes : List Byte → Word → Memory → Memory
  | [], _, m => m
  | b :: bs, a, m => placeBytes bs (a + 1) (m.write (bank0 a) b)

end Sys2Proof.Machine
end

