-- ==== Sys2Proof/Machine/Engine.lean ====
section
/-! DEFINITION. The engine around an instruction (spec 70 R392, 60 R320 to R327, R360): arbitration, the idle step, the
acceptance step, the UNKNOWN operation, and the end of an instruction step. -/

namespace Sys2Proof.Machine

/-- Source i asks and may be taken: requested, and without a mask bit or enabled by it (R322). -/
def eligible (s : State) (i : Fin 14) : Bool :=
  s.req.getLsbD i.val && (decide (i.val < 3) || s.mask.getLsbD i.val)

/-- The arbitrated sources in priority order (R312, R322). -/
def sources : List (Fin 14) := [1, 2, 3, 4, 5, 6, 7, 8, 9, 10, 11, 12, 13]

/-- `check_interrupts()` (R322): none while I is 0 or the enable is deferred, else the first eligible source. -/
def checkInterrupts (s : State) : Option (Fin 14) :=
  if (Flags.ofByte s.f).i && !s.afterEi then sources.find? (eligible s) else none

/-- The end of every step: it reports its cost and the timers advance by it (R342, R392 (e)). -/
def endStep (s : State) : State := advanceTimers s.cost s

/-- An idle step of a halted core: one cycle, nothing else (R360, R392 (a)). -/
def idleStep (s : State) : State := endStep (s.setCost 1)

/-- An arbitrated acceptance, a step of its own (R325, R327, R392 (b)). -/
def acceptStep (i : Fin 14) (s : State) : State :=
  endStep ((accept i s.pc s).setCost s.cfg.intCost.val)

/-- The UNKNOWN operation (44 R290): no effect, `UNKNOWN_COST` cycles. -/
def unknownOp (s : State) : State := s.setCost s.cfg.unknownCost.val

/-- The deferred enable (R392 (d)): `deferred` is `after_ei` before the fetch. -/
def deferredEnable (deferred isEi : Bool) (s : State) : State :=
  if deferred && s.afterEi && !isEi then (s.setAfterEi false).setF (setI true s.f) else s

/-- The end of an instruction step: the deferred enable, then the time (R392 (d), (e)). -/
def finish (deferred isEi : Bool) (s : State) : State := endStep (deferredEnable deferred isEi s)

/-- Among the six bytes at PC is one whose read is no plain read of memory: a control register, a port, a device. -/
def fetchLeavesMemory (s : State) : Bool :=
  [0, 1, 2, 3, 4, 5].any fun k => !s.holdsByte (bank0 (s.pc + k))

/-- Make the next step an instruction fetched from memory (log entry 10): not halted, no source to accept, and PC where
every fetched byte is one of memory. The state after reset is already so and is not changed. -/
def readyToFetch (s : State) : State :=
  let s1 := s.setHalted false
  let s2 := if (checkInterrupts s1).isSome then { s1 with pending := 0, line := s1.line &&& ~~~0x0008#14 } else s1
  let s3 := if fetchLeavesMemory s2 then s2.setPc 0 else s2
  if fetchLeavesMemory s3 then { s3 with cfg := { s3.cfg with memMap := [] } } else s3

/-- `readyToFetch`, with these bytes stored at PC. -/
def placeInstruction (bs : List Byte) (s : State) : State :=
  let s1 := readyToFetch s
  s1.setMem (placeBytes bs s1.pc s1.mem)

end Sys2Proof.Machine
end

