-- ==== Sys2Proof/Machine/Step.lean ====
section
/-! DEFINITION. One step of the engine (spec 70 R392), and an instruction placed where the next step fetches it. -/

namespace Sys2Proof.Machine

/-- R392 (c) to (e): fetch and decode at PC, execute, deferred enable, time. -/
def stepInstr (s : State) : Host.Outcome State Fault Refusal :=
  match fetchDecode s with
  | (none, s1) => .next (finish s.afterEi false (unknownOp s1))
  | (some i, s1) =>
    match exec i s1 with
    | .next s2 => .next (finish s.afterEi (i == .ei) s2)
    | .fault r => .fault r
    | .refused r => .refused r

/-- `Step()` (R392): idle while halted with nothing to accept; else an acceptance; else one instruction. -/
def step (s : State) : Host.Outcome State Fault Refusal :=
  match checkInterrupts s with
  | some i => .next (acceptStep i s)
  | none => if s.halted then .next (idleStep s) else stepInstr s

/-- The state with an instruction of the opcode table stored where the next step fetches it (log entries 1 and 10). -/
def State.withFetchWord (s : State) (nbits w : Nat) : State := placeInstruction (tableBytes nbits w) s

end Sys2Proof.Machine
end

