-- ==== Sys2Proof/Machine/HostControl.lean ====
section
/-! DEFINITION. The host control interface (spec 60 R314, R348, R366, R370 to R373, 70 R380, R381): what the host may do
between steps. -/

namespace Sys2Proof.Machine

/-- `set_irq_line(i, level)` (R314): record the level; a rising edge of an edge-triggered source latches a request. -/
def setIrqLine (i : Fin 14) (level : Bool) (s : State) : State :=
  if i.val = 0 then s
  else
    let s1 := { s with line := if level then s.line ||| (1#14 <<< i.val) else s.line &&& ~~~(1#14 <<< i.val) }
    if i.val ≠ 3 ∧ s.line.getLsbD i.val = false ∧ level = true then raiseRequest i.val s1 else s1

/-- `timer_ext_event(i)` for i = 0..3 (R348). -/
def timerExtEvent8 (i : Fin 4) (s : State) : State :=
  if (s.timer8 i).run && (s.timer8 i).clk == 0 then tickTimer8 i s else s

/-- `timer_ext_event(4)` (R348). -/
def timerExtEvent16 (s : State) : State := if s.t4.run && s.t4.clk == 0 then tickTimer16 s else s

/-- `burn(n)` (R371): the timers advance by n cycles; nothing is fetched or arbitrated, `residual` stays. -/
def burn (n : Nat) (s : State) : State := advanceTimers n s

/-- `reset()` (R380, R381): every item of the core's state takes its value of R52; the memory, what stands behind the
adapter and the ports, the calls they saw and the parameters are outside the core and stay. -/
def hostReset (s : State) : State :=
  { State.reset with
    mem := s.mem, busAnswers := s.busAnswers, ports := s.ports, callLog := s.callLog, freeCount := s.freeCount, cfg := s.cfg }

/-- The loop of `run` (R370). Every step costs at least one cycle, so `fuel` at least `avail` is enough. -/
def runLoop : Nat → Int → Nat → State → Host.Outcome (State × Nat) Fault Refusal
  | 0, avail, used, s => .next ({ s with residual := (-avail).toNat }, used)
  | fuel + 1, avail, used, s =>
    if 0 < avail then
      match step s with
      | .next t => runLoop fuel (avail - t.cost) (used + t.cost) t
      | .fault r => .fault r
      | .refused r => .refused r
    else .next ({ s with residual := (-avail).toNat }, used)

/-- `run(N)` (R370): the state after, with the overshoot in `residual`, and the cycles used. -/
def run (n : Nat) (s : State) : Host.Outcome (State × Nat) Fault Refusal :=
  runLoop n ((n : Int) - (s.residual : Int)) 0 s

/-- The control registers of R41 with a name and a value of the core's own: all but the ports. -/
inductive ControlReg where
  | irfl
  | irfh
  | treg (i : Fin 4)
  | tclk
  | tmod
  | trun
  | treg4l
  | treg4h
  | t4mod
  | intel
  | inteh
  | bx
  | bankY
deriving DecidableEq, Repr

/-- A control register in the register window. -/
def ControlReg.ioReg : ControlReg → IoReg
  | .irfl => .irfl
  | .irfh => .irfh
  | .treg i => .treg i
  | .tclk => .tclk
  | .tmod => .tmod
  | .trun => .trun
  | .treg4l => .treg4l
  | .treg4h => .treg4h
  | .t4mod => .t4mod
  | .intel => .intel
  | .inteh => .inteh
  | .bx => .bx
  | .bankY => .bankY

/-- The names that R39 gives the parts of a timer. -/
inductive TimerField where
  | mode
  | clk
  | run
  | reload
  | count
  | presc
deriving DecidableEq, Repr

/-- The names under which the host reads and writes the core (R46, R366): the active and the shadow cells, F, PC, the
selectors, the context flags, the interrupt bits and every part of every timer, each as the state holds it; and the control
registers of R41, BX and BY among them, as a program reaches them (log entry 26). `residual` has no width: see
`hostWriteResidual`. -/
inductive HostReg where
  | half (r : Reg8)
  | pair (g : Reg16)
  | f
  | af
  | pc
  | bcShadow
  | deShadow
  | hlShadow
  | afShadow
  | gsel
  | asel
  | halted
  | afterEi
  | pending
  | mask
  | line
  | timer8 (i : Fin 4) (k : TimerField)
  | timer4 (k : TimerField)
  | control (c : ControlReg)
deriving DecidableEq, Repr

/-- One bit as a host word. -/
def bitWord (b : Bool) : Word := (BitVec.ofBool b).setWidth 16

/-- A part of a timer of 0..3, zero-extended (R39). -/
def Timer8.get (u : Timer8) : TimerField → Word
  | .mode => u.mode.setWidth 16
  | .clk => u.clk.setWidth 16
  | .run => bitWord u.run
  | .reload => u.reload.setWidth 16
  | .count => u.count.setWidth 16
  | .presc => u.presc.setWidth 16

/-- A part of timer 4, zero-extended (R39). -/
def Timer16.get (u : Timer16) : TimerField → Word
  | .mode => u.mode.setWidth 16
  | .clk => u.clk.setWidth 16
  | .run => bitWord u.run
  | .reload => u.reload
  | .count => u.count
  | .presc => u.presc.setWidth 16

/-- Replace a part of a timer of 0..3 by the low bits of a word; of the prescaler only 0..255 are used (R39). -/
def Timer8.set (k : TimerField) (w : Word) (u : Timer8) : Timer8 :=
  match k with
  | .mode => { u with mode := w.setWidth 2 }
  | .clk => { u with clk := w.setWidth 2 }
  | .run => { u with run := w.getLsbD 0 }
  | .reload => { u with reload := loByte w }
  | .count => { u with count := loByte w }
  | .presc => { u with presc := (loByte w).setWidth 9 }

/-- Replace a part of timer 4, as `Timer8.set`. -/
def Timer16.set (k : TimerField) (w : Word) (u : Timer16) : Timer16 :=
  match k with
  | .mode => { u with mode := w.setWidth 2 }
  | .clk => { u with clk := w.setWidth 3 }
  | .run => { u with run := w.getLsbD 0 }
  | .reload => { u with reload := w }
  | .count => { u with count := w }
  | .presc => { u with presc := (loByte w).setWidth 9 }

/-- Replace the shadow general bank. -/
def State.setGenShadow (s : State) (g : GenBank) : State :=
  { s with gbank0 := if s.gsel then g else s.gbank0, gbank1 := if s.gsel then s.gbank1 else g }

/-- Replace AF'. -/
def State.setAfShadow (s : State) (w : Word) : State :=
  { s with afbank0 := if s.asel then w else s.afbank0, afbank1 := if s.asel then s.afbank1 else w }

/-- A host read of a register (R366), zero-extended. A control register answers what a program's load of it answers. -/
def hostRead (s : State) : HostReg → Word
  | .half r => (s.get8 r).setWidth 16
  | .pair g => s.get16 g
  | .f => s.f.setWidth 16
  | .af => s.af
  | .pc => s.pc
  | .bcShadow => s.genShadow.bc
  | .deShadow => s.genShadow.de
  | .hlShadow => s.genShadow.hl
  | .afShadow => s.afShadow
  | .gsel => bitWord s.gsel
  | .asel => bitWord s.asel
  | .halted => bitWord s.halted
  | .afterEi => bitWord s.afterEi
  | .pending => s.pending.setWidth 16
  | .mask => s.mask.setWidth 16
  | .line => s.line.setWidth 16
  | .timer8 i k => (s.timer8 i).get k
  | .timer4 k => s.t4.get k
  | .control c => (ioRead c.ioReg s).1.setWidth 16

/-- A host write of a register between steps (R366): the register takes the low bits of the word, but for bits that do not
exist (R38, R318), and nothing else happens: a write of `line` latches no request, one of `run` starts no timer. A control
register takes the low byte as from a program's store, reserved bits ignored and TRUN starting and stopping timers. -/
def hostWrite (r : HostReg) (w : Word) (s : State) : State :=
  match r with
  | .half r => s.set8 r (loByte w)
  | .pair g => s.set16 g w
  | .f => s.setF (loByte w)
  | .af => s.setAf w
  | .pc => s.setPc w
  | .bcShadow => s.setGenShadow { s.genShadow with bc := w }
  | .deShadow => s.setGenShadow { s.genShadow with de := w }
  | .hlShadow => s.setGenShadow { s.genShadow with hl := w }
  | .afShadow => s.setAfShadow w
  | .gsel => { s with gsel := w.getLsbD 0 }
  | .asel => { s with asel := w.getLsbD 0 }
  | .halted => { s with halted := w.getLsbD 0 }
  | .afterEi => { s with afterEi := w.getLsbD 0 }
  | .pending => { s with pending := w.setWidth 14 &&& 0x3FF6 }
  | .mask => { s with mask := w.setWidth 14 &&& 0x3FF8 }
  | .line => { s with line := w.setWidth 14 &&& 0x3FFE }
  | .timer8 i k => s.setTimer8 i ((s.timer8 i).set k w)
  | .timer4 k => s.setTimer16 (s.t4.set k w)
  | .control c => ioWrite c.ioReg (loByte w) s

/-- A host write of `residual` (R36, R46), which is no bit vector; the host reads the field itself. -/
def hostWriteResidual (n : Nat) (s : State) : State := { s with residual := n }

/-- A host write of one bit of F (R366). -/
def hostWriteFlag (k : Fin 8) (on : Bool) (s : State) : State :=
  s.setF (if on then s.f ||| (1#8 <<< k.val) else s.f &&& ~~~(1#8 <<< k.val))

end Sys2Proof.Machine
end

