-- ==== Sys2Proof/Safety.lean ====
section
/-! DEFINITION. What counts as a safe run, the invariant of the machine, and the frame words that the statements use: which
registers, which bytes of memory and which parts of the interrupt, timer and port system an effect leaves alone. -/

namespace Sys2Proof.Machine

/-- A safe state: the next step answers a state. The core has no fault (60 R310). -/
def Safe (s : State) : Prop := ∃ t, step s = .next t

/-- What holds of every state a run reaches (10 R38, R39, R49; 20 R60): the memory is in its canonical form; `mask` has no
bits 2..0; `pending` has no bit of SWI and none of the level-triggered source 3; `line` has no bit 0; every prescaler is
at most 255. -/
abbrev MachineInv (s : State) : Prop :=
  s.mem.wf = true ∧
  (s.mask.getLsbD 0 = false ∧ s.mask.getLsbD 1 = false ∧ s.mask.getLsbD 2 = false) ∧
  (s.pending.getLsbD 0 = false ∧ s.pending.getLsbD 3 = false) ∧
  s.line.getLsbD 0 = false ∧
  (s.t0.presc.toNat ≤ 255 ∧ s.t1.presc.toNat ≤ 255 ∧ s.t2.presc.toNat ≤ 255 ∧ s.t3.presc.toNat ≤ 255 ∧
    s.t4.presc.toNat ≤ 255)

/-- The flags of a state by name (10 R28). -/
def flagsOf (s : State) : Flags := Flags.ofByte s.f

/-- Every 8-bit register but those of `ex8`, every one of IX, IY, SP but those of `exX`, the bank selectors and the shadow
banks are as before. F is not among them: a statement says what becomes of it. -/
structure SameRegs (ex8 : List Reg8) (exX : List RegX) (s t : State) : Prop where
  /-- B, C, D, E, H, L, A. -/
  halves : ∀ r, r ∉ ex8 → t.get8 r = s.get8 r
  /-- IX, IY, SP. -/
  wide : ∀ x, x ∉ exX → t.get16 (RegX.reg16 x) = s.get16 (RegX.reg16 x)
  /-- The bank selectors. -/
  selectors : t.gsel = s.gsel ∧ t.asel = s.asel
  /-- BC', DE', HL', AF'. -/
  shadows : t.genShadow = s.genShadow ∧ t.afShadow = s.afShadow

/-- The interrupt controller, the timers, the bank registers BX and BY, what stands behind the adapter's devices and the
ports with the calls made to them, the execution context (`halted`, `after_ei`, `residual`) and the parameters are as before. -/
structure SameSystem (s t : State) : Prop where
  /-- `halted`, `after_ei`, `residual`. -/
  context : t.halted = s.halted ∧ t.afterEi = s.afterEi ∧ t.residual = s.residual
  /-- `pending`, `mask`, `line`. -/
  interrupts : t.pending = s.pending ∧ t.mask = s.mask ∧ t.line = s.line
  /-- Timers 0 to 4. -/
  timers : t.t0 = s.t0 ∧ t.t1 = s.t1 ∧ t.t2 = s.t2 ∧ t.t3 = s.t3 ∧ t.t4 = s.t4
  /-- BX, BY. -/
  banks : t.bankX = s.bankX ∧ t.bankY = s.bankY
  /-- What stands behind the ports and the adapter's devices, and the calls made to them. -/
  outside : t.ports = s.ports ∧ t.busAnswers = s.busAnswers ∧ t.callLog = s.callLog
  /-- The parameters of 00 R6. -/
  cfg : t.cfg = s.cfg

/-- Every byte of memory reads as before. -/
def SameMemory (s t : State) : Prop := ∀ b, t.mem.read b = s.mem.read b

/-- The byte `v` was stored at `a`, if `a` is an address that keeps bytes (no control register, read-only byte or device),
and every other byte of memory reads as before. -/
def StoredByte (a : Addr) (v : Byte) (s t : State) : Prop :=
  ∀ b, t.mem.read b = if b = a ∧ s.keepsByte a = true then v else s.mem.read b

/-- The word `w` was stored at `a`, its low byte at `a` and its high byte at the next address of the bank, each if that
address keeps bytes, and every other byte of memory reads as before (20 R65). -/
def StoredWord (a : Addr) (w : Word) (s t : State) : Prop :=
  ∀ b, t.mem.read b =
    if b = nextAddr a ∧ s.keepsByte (nextAddr a) = true then hiByte w
    else if b = a ∧ s.keepsByte a = true then loByte w
    else s.mem.read b

/-- Registers but the named ones, PC, and the interrupt, timer and port system are as before, the system being the one of
`io`: `s` itself, or the state that the instruction's own accesses leave. -/
def Frame (ex8 : List Reg8) (exX : List RegX) (s io t : State) : Prop :=
  SameRegs ex8 exX s t ∧ SameSystem io t ∧ t.pc = s.pc

/-- Frame of a control transfer: as `Frame`, PC left open. -/
def FrameButPc (ex8 : List Reg8) (exX : List RegX) (s io t : State) : Prop :=
  SameRegs ex8 exX s t ∧ SameSystem io t

/-- The halves of a general pair; none for IX, IY, SP. -/
def halvesOf : Reg16 → List Reg8
  | .bc => [.b, .c]
  | .de => [.d, .e]
  | .hl => [.h, .l]
  | _ => []

/-- IX, IY or SP as a register of the `ix` field; none for a general pair. -/
def wideOf : Reg16 → List RegX
  | .ix => [.ix]
  | .iy => [.iy]
  | .sp => [.sp]
  | _ => []

/-- The bytes of memory from an address of bank 0 on, PC wrapping (10 R27). -/
def bytesAt : Nat → Word → State → List Byte
  | 0, _, _ => []
  | n + 1, a, s => s.mem.read (bank0 a) :: bytesAt n (a + 1) s

end Sys2Proof.Machine
end

