-- ==== Sys2Proof/Certificates/Slice0/Obligations.lean ====
section
/-! DEFINITION. The statements for the provers. First the flag and result formulas of the rules, written from the spec's
text without the model's own functions; then the shapes that the instruction statements share; then the statements. An
instruction statement says the result, the flags and the frame, for every state and every operand; where it reads or
writes memory it computes the address with `addr`, as the meaning does. -/

namespace Sys2Proof.Rules

open Sys2Proof.Machine

/-! ### Formulas of the rules -/

/-- `Add8` and `Add16` (42 R185, R188); `hb` is 4 or 12. V is the rule's second form. -/
def sum {w : Nat} (hb : Nat) (a b : BitVec w) (cin : Bool) (k : Flags) : BitVec w × Flags :=
  let res := a + b + BitVec.ofNat w cin.toNat
  let carry := decide (2 ^ w ≤ a.toNat + b.toNat + cin.toNat)
  (res,
    { s := res.getLsbD (w - 1), z := decide (res = 0), i := k.i,
      h := decide (2 ^ hb ≤ a.toNat % 2 ^ hb + b.toNat % 2 ^ hb + cin.toNat), x := carry,
      v := ((a ^^^ res) &&& (b ^^^ res)).getLsbD (w - 1), n := false, c := carry })

/-- `Sub8` and `Sub16` (42 R186, R188). V is the rule's second form. -/
def difference {w : Nat} (hb : Nat) (a b : BitVec w) (cin : Bool) (k : Flags) : BitVec w × Flags :=
  let res := a - b - BitVec.ofNat w cin.toNat
  let borrow := decide (a.toNat < b.toNat + cin.toNat)
  (res,
    { s := res.getLsbD (w - 1), z := decide (res = 0), i := k.i,
      h := decide (a.toNat % 2 ^ hb < b.toNat % 2 ^ hb + cin.toNat), x := borrow,
      v := ((a ^^^ b) &&& (a ^^^ res)).getLsbD (w - 1), n := true, c := borrow })

/-- `parity_even` (00 section 4.1): an even number of 1 bits. -/
def evenParity (v : Byte) : Bool :=
  ((List.range 8).filter fun j => v.getLsbD j).length % 2 == 0

/-- `Logic8` (42 R187). -/
def logicByte (res : Byte) (h : Bool) (k : Flags) : Byte × Flags :=
  (res, { s := res.getLsbD 7, z := decide (res = 0), i := k.i, h := h, x := false, v := evenParity res, n := false, c := false })

/-- `Logic16` (42 R188): V is cleared. -/
def logicWord (res : Word) (h : Bool) (k : Flags) : Word × Flags :=
  (res, { s := res.getLsbD 15, z := decide (res = 0), i := k.i, h := h, x := false, v := false, n := false, c := false })

/-- 8-bit and 16-bit increment (42 R215, R219). -/
def increment {w : Nat} (hb : Nat) (a : BitVec w) (k : Flags) : BitVec w × Flags :=
  let res := (a.toNat + 1) % 2 ^ w
  (BitVec.ofNat w res,
    { k with
      s := decide (2 ^ (w - 1) ≤ res), z := decide (res = 0), h := decide (res % 2 ^ hb = 0), x := decide (res = 0),
      v := decide (res = 2 ^ (w - 1)), n := false })

/-- 8-bit and 16-bit decrement (42 R216, R220). -/
def decrement {w : Nat} (hb : Nat) (a : BitVec w) (k : Flags) : BitVec w × Flags :=
  let res := (a.toNat + 2 ^ w - 1) % 2 ^ w
  (BitVec.ofNat w res,
    { k with
      s := decide (2 ^ (w - 1) ≤ res), z := decide (res = 0), h := decide (res % 2 ^ hb = 2 ^ hb - 1),
      x := decide (res = 2 ^ w - 1), v := decide (res = 2 ^ (w - 1) - 1), n := true })

/-- The eight shifts and rotates of 43 R240 as numbers: result and bit shifted out. -/
def shifted (op : RotOp) (v : Byte) (c : Bool) : Byte × Bool :=
  let n := v.toNat
  let left := decide (128 ≤ n)
  let right := decide (n % 2 = 1)
  match op with
  | .rlc => (BitVec.ofNat 8 (2 * n + n / 128), left)
  | .rrc => (BitVec.ofNat 8 (n / 2 + 128 * (n % 2)), right)
  | .rl => (BitVec.ofNat 8 (2 * n + c.toNat), left)
  | .rr => (BitVec.ofNat 8 (n / 2 + 128 * c.toNat), right)
  | .sla => (BitVec.ofNat 8 (2 * n), left)
  | .sra => (BitVec.ofNat 8 (n / 2 + 128 * (n / 128)), right)
  | .sll => (BitVec.ofNat 8 (2 * n), left)
  | .srl => (BitVec.ofNat 8 (n / 2), right)

/-- `ROT r` and `ROT (m)`: result and flags (43 R240). -/
def rotated (op : RotOp) (v : Byte) (k : Flags) : Byte × Flags :=
  let r := shifted op v k.c
  (r.1, { k with s := r.1.getLsbD 7, z := decide (r.1 = 0), h := false, x := r.2, v := evenParity r.1, n := false, c := r.2 })

/-- The one-byte A forms: S, Z, V kept (43 R240). -/
def rotatedA (op : RotOp) (v : Byte) (k : Flags) : Byte × Flags :=
  let r := shifted op v k.c
  (r.1, { k with h := false, x := r.2, n := false, c := r.2 })

/-- `cond(cc)` (44 R275): codes 0 to 7, and code + 8 the complement. -/
def condition (cc : Cond) (k : Flags) : Bool :=
  let code := cc.code.toNat
  let base :=
    if code % 8 = 0 then false
    else if code % 8 = 1 then k.s ^^ k.v
    else if code % 8 = 2 then k.z || (k.s ^^ k.v)
    else if code % 8 = 3 then k.c || k.z
    else if code % 8 = 4 then k.v
    else if code % 8 = 5 then k.s
    else if code % 8 = 6 then k.z
    else k.c
  base ^^ decide (8 ≤ code)

/-- DAA (42 R225): the new A and the flags. -/
def decimalAdjust (a : Byte) (k : Flags) : Byte × Flags :=
  let lo := a.toNat % 16
  let hi := a.toNat / 16
  let diff : Nat :=
    if k.c = true then (if lo ≤ 9 ∧ k.h = false then 0x60 else 0x66)
    else if 10 ≤ lo then (if hi ≤ 8 then 0x06 else 0x66)
    else if 10 ≤ hi then (if k.h = true then 0x66 else 0x60)
    else (if k.h = true then 0x06 else 0x00)
  let res := BitVec.ofNat 8 (if k.n = true then a.toNat + 256 - diff else a.toNat + diff)
  let newC := k.c || (if lo ≤ 9 then decide (10 ≤ hi) else decide (9 ≤ hi))
  let newH := if k.n = true then k.h && decide (lo ≤ 5) else decide (10 ≤ lo)
  (res, { k with s := res.getLsbD 7, z := decide (res = 0), v := evenParity res, c := newC, x := newC, h := newH })

/-- `v` with bit `b` set (43 R252). -/
def withBit (v : Byte) (b : BitNo) : Byte :=
  BitVec.ofNat 8 (if v.getLsbD b.toNat then v.toNat else v.toNat + 2 ^ b.toNat)

/-- `v` with bit `b` cleared (43 R253). -/
def withoutBit (v : Byte) (b : BitNo) : Byte :=
  BitVec.ofNat 8 (if v.getLsbD b.toNat then v.toNat - 2 ^ b.toNat else v.toNat)

/-- `(base + sext(d)) mod 65536` in integers (30 R103, 44 R277). -/
def displaced (base : Word) (d : Int) : Word := BitVec.ofInt 16 ((base.toNat : Int) + d)

/-- `REL16_BIAS` (00 R6). -/
def bias (s : State) : Int := if s.cfg.rel16Minus1 then -1 else 0

/-! ### Shapes of the instruction statements

`o` is what `exec` answers. Each shape says that it is a next state, and what that state is. -/

/-- The 8-bit register `r` holds `v`; F, every other register, memory and PC are as before; the system is that of `io`. -/
def LoadsByte (r : Reg8) (v : Byte) (s io : State) (o : Res) : Prop :=
  ∃ t, o = .next t ∧ t.get8 r = v ∧ t.f = s.f ∧ Frame [r] [] s io t ∧ SameMemory s t

/-- The 16-bit register `g` holds `w`; all else as in `LoadsByte`. -/
def LoadsWord (g : Reg16) (w : Word) (s io : State) (o : Res) : Prop :=
  ∃ t, o = .next t ∧ t.get16 g = w ∧ t.f = s.f ∧ Frame (halvesOf g) (wideOf g) s io t ∧ SameMemory s t

/-- The byte `v` is stored at `a`, after accesses that leave `io`; no register and no flag changes. -/
def StoresByte (a : Addr) (v : Byte) (s io : State) (o : Res) : Prop :=
  ∃ t, o = .next t ∧ t.f = s.f ∧ Frame [] [] s (write8 a v io) t ∧ StoredByte a v s t

/-- The word `w` is stored at `a`, after accesses that leave `io`; no register and no flag changes. -/
def StoresWord (a : Addr) (w : Word) (s io : State) (o : Res) : Prop :=
  ∃ t, o = .next t ∧ t.f = s.f ∧ Frame [] [] s (write16 a w io) t ∧ StoredWord a w s t

/-- Nothing changes but, it may be, the model's own fields. -/
def Nothing (s : State) (o : Res) : Prop := ∃ t, o = .next t ∧ t.f = s.f ∧ Frame [] [] s s t ∧ SameMemory s t

/-- `rule` on register `r`: result and flags; `writes` is false for CP. -/
def IntoReg (rule : Byte → Flags → Byte × Flags) (writes : Bool) (r : Reg8) (s io : State) (o : Res) : Prop :=
  let q := rule (s.get8 r) (flagsOf s)
  ∃ t, o = .next t ∧ t.get8 r = (if writes then q.1 else s.get8 r) ∧ flagsOf t = q.2 ∧ Frame [r] [] s io t ∧
    SameMemory s t

/-- `rule` on the byte at the address of `m`, read once and, if `writes`, written once to the same address. -/
def IntoByte (rule : Byte → Flags → Byte × Flags) (writes : Bool) (m : Mem) (s : State) (o : Res) : Prop :=
  let a := addr m s
  let v := read8 a s
  let q := rule v.1 (flagsOf s)
  ∃ t, o = .next t ∧ flagsOf t = q.2 ∧
    if writes then Frame [] [] s (write8 a q.1 v.2) t ∧ StoredByte a q.1 s t else Frame [] [] s v.2 t ∧ SameMemory s t

/-- `rule` on the word at the address of `m`, read, then written to the same address. -/
def IntoWord (rule : Word → Flags → Word × Flags) (m : Mem) (s : State) (o : Res) : Prop :=
  let a := addr m s
  let v := read16 a s
  let q := rule v.1 (flagsOf s)
  ∃ t, o = .next t ∧ flagsOf t = q.2 ∧ Frame [] [] s (write16 a q.1 v.2) t ∧ StoredWord a q.1 s t

/-- `rule` on HL: result and flags; `writes` is false for CP. -/
def IntoHl (rule : Word → Flags → Word × Flags) (writes : Bool) (s io : State) (o : Res) : Prop :=
  let q := rule (s.get16 .hl) (flagsOf s)
  ∃ t, o = .next t ∧ t.get16 .hl = (if writes then q.1 else s.get16 .hl) ∧ flagsOf t = q.2 ∧
    Frame [.h, .l] [] s io t ∧ SameMemory s t

/-- The six forms of an 8-bit operation (42 R189): `A,(0FF00h+u)`; `A,n`; `A,(m)`; `A,r`; `r,n`; `(m),n`. -/
def ByteForms (rule : Byte → Byte → Flags → Byte × Flags) (writes : Bool) (aU aN : Byte → Instr) (aM : Mem → Instr)
    (aR : Reg8 → Instr) (rN : Reg8 → Byte → Instr) (mN : Mem → Byte → Instr) : Prop :=
  (∀ s u, IntoReg (rule · (read8 (addr (.dp u) s) s).1) writes .a s (read8 (addr (.dp u) s) s).2 (exec (aU u) s)) ∧
  (∀ s n, IntoReg (rule · n) writes .a s s (exec (aN n) s)) ∧
  (∀ s m, IntoReg (rule · (read8 (addr m s) s).1) writes .a s (read8 (addr m s) s).2 (exec (aM m) s)) ∧
  (∀ s p, IntoReg (rule · (s.get8 p)) writes .a s s (exec (aR p) s)) ∧
  (∀ s p n, IntoReg (rule · n) writes p s s (exec (rN p n) s)) ∧
  (∀ s m n, s.mem.wf = true → IntoByte (rule · n) writes m s (exec (mN m n) s))

/-- The four forms of a 16-bit operation on HL (42 R205): `(0FF00h+u)`; `mn`; `(m)`; `gg`. -/
def WordForms (rule : Word → Word → Flags → Word × Flags) (writes : Bool) (hU : Byte → Instr) (hW : Word → Instr)
    (hM : Mem → Instr) (hG : Reg16 → Instr) : Prop :=
  (∀ s u, IntoHl (rule · (read16 (addr (.dp u) s) s).1) writes s (read16 (addr (.dp u) s) s).2 (exec (hU u) s)) ∧
  (∀ s w, IntoHl (rule · w) writes s s (exec (hW w) s)) ∧
  (∀ s m, IntoHl (rule · (read16 (addr m s) s).1) writes s (read16 (addr m s) s).2 (exec (hM m) s)) ∧
  (∀ s p, IntoHl (rule · (s.get16 p)) writes s s (exec (hG p) s))

/-- `ADD ix,src` (42 R214): the sum, and H, X, N, C only. -/
def AddsToIndex (x : RegX) (b : Word) (s io : State) (o : Res) : Prop :=
  let a := s.get16 (RegX.reg16 x)
  ∃ t, o = .next t ∧ (t.get16 (RegX.reg16 x)).toNat = (a.toNat + b.toNat) % 65536 ∧
    flagsOf t =
      { flagsOf s with
        h := decide (0xFFF < a.toNat % 4096 + b.toNat % 4096), x := decide (65536 ≤ a.toNat + b.toNat), n := false,
        c := decide (65536 ≤ a.toNat + b.toNat) } ∧
    Frame [] [x] s io t ∧ SameMemory s t

/-- A step of LDI, LDIR, LDD, LDDR (41 R170 to R173, R178): `d` is 1 or 0xFFFF, `again` is true for the repeating forms. -/
def CopiesElement (d : Word) (again : Bool) (i : Instr) : Prop :=
  ∀ s, s.mem.wf = true →
    let hl := s.get16 .hl
    let de := s.get16 .de
    let bc := s.get16 .bc - 1
    let v := read8 (bank0 hl) s
    ∃ t, exec i s = .next t ∧ t.get16 .hl = hl + d ∧ t.get16 .de = de + d ∧ t.get16 .bc = bc ∧
      flagsOf t = { flagsOf s with h := false, n := false, v := decide (bc ≠ 0) } ∧
      t.pc = (if again = true ∧ bc ≠ 0 then s.pc - 2 else s.pc) ∧
      FrameButPc [.b, .c, .d, .e, .h, .l] [] s (write8 (bank0 de) v.1 v.2) t ∧ StoredByte (bank0 de) v.1 s t

/-- A step of CPI, CPIR, CPD, CPDR (41 R174 to R178): `d` is 1 or 0xFFFF, `again` is true for the repeating forms. -/
def ComparesElement (d : Word) (again : Bool) (i : Instr) : Prop :=
  ∀ s,
    let hl := s.get16 .hl
    let bc := s.get16 .bc - 1
    let v := read8 (bank0 hl) s
    let a := s.get8 .a
    ∃ t, exec i s = .next t ∧ t.get16 .hl = hl + d ∧ t.get16 .bc = bc ∧
      flagsOf t =
        { flagsOf s with
          s := (a - v.1).getLsbD 7, z := decide (a = v.1), h := decide (a.toNat % 16 < v.1.toNat % 16), n := true,
          v := decide (bc ≠ 0) } ∧
      t.pc = (if again = true ∧ bc ≠ 0 ∧ a ≠ v.1 then s.pc - 2 else s.pc) ∧
      FrameButPc [.b, .c, .h, .l] [] s v.2 t ∧ SameMemory s t

/-- BIT on the value `v` (43 R251): Z, H, N as the rule says; S and V are open (log entry 5) and any value of them meets
this; I, X, C as before; no register changes. -/
def TestsBit (v : Byte) (b : BitNo) (s t : State) : Prop :=
  (flagsOf t).z = !v.getLsbD b.toNat ∧ (flagsOf t).h = true ∧ (flagsOf t).n = false ∧
    (flagsOf t).i = (flagsOf s).i ∧ (flagsOf t).x = (flagsOf s).x ∧ (flagsOf t).c = (flagsOf s).c

/-- DIV by `v` (42 R227): the quotient's low byte in L, the remainder in H, V for a quotient over 255; by 0 the parameter
`DIV0` and V set. No other flag changes. -/
def Divides (v : Byte) (s io : State) (o : Res) : Prop :=
  let hl := s.get16 .hl
  ∃ t, o = .next t ∧
    (if v = 0 then
      (flagsOf t = { flagsOf s with v := true }) ∧
        (s.cfg.div0 = .spec → t.get8 .h = loByte hl ∧ t.get8 .l = hiByte hl ^^^ 0xFF) ∧
        (∀ k, s.cfg.div0 = .other k → t.get16 .hl = Config.div0Other k hl)
    else
      flagsOf t = { flagsOf s with v := decide (255 < hl.toNat / v.toNat) } ∧
        (t.get8 .l).toNat = hl.toNat / v.toNat % 256 ∧ (t.get8 .h).toNat = hl.toNat % v.toNat) ∧
    Frame [.h, .l] [] s io t ∧ SameMemory s t

/-- MUL by `v` (42 R226): the whole product in HL, no flag. -/
def Multiplies (v : Byte) (s io : State) (o : Res) : Prop :=
  ∃ t, o = .next t ∧ (t.get16 .hl).toNat = (s.get8 .l).toNat * v.toNat ∧ t.f = s.f ∧ Frame [.h, .l] [] s io t ∧
    SameMemory s t

/-- A transfer to `target` if `c` holds; nothing else changes (44 R276 to R278). -/
def Jumps (c : Bool) (target : Word) (s : State) (o : Res) : Prop :=
  ∃ t, o = .next t ∧ t.pc = (if c then target else s.pc) ∧ t.f = s.f ∧ FrameButPc [] [] s s t ∧ SameMemory s t

/-- A call of `target` if `c` holds (44 R279, R280): PC pushed, then the transfer; else nothing. -/
def Calls (c : Bool) (target : Word) (s : State) (o : Res) : Prop :=
  let a := bank0 (s.sp - 2)
  ∃ t, o = .next t ∧ t.f = s.f ∧
    if c then t.pc = target ∧ t.sp = s.sp - 2 ∧ FrameButPc [] [.sp] s (write16 a s.pc s) t ∧ StoredWord a s.pc s t
    else Frame [] [] s s t ∧ SameMemory s t

/-- A return if `c` holds (44 R281): PC popped; else nothing. -/
def Returns (c : Bool) (s : State) (o : Res) : Prop :=
  let v := read16 (bank0 s.sp) s
  ∃ t, o = .next t ∧ t.f = s.f ∧ SameMemory s t ∧
    if c then t.pc = v.1 ∧ t.sp = s.sp + 2 ∧ FrameButPc [] [.sp] s v.2 t else Frame [] [] s s t

/-- The acceptance of source `i` with return address `ret` (60 R325): the frame, the cleared latch, I and `halted` cleared,
the entry address; nothing else. -/
def Accepted (i : Fin 14) (ret : Word) (s t : State) : Prop :=
  let two := decide (3 ≤ i.val) || s.cfg.nmFrameHasAf
  let s1 := write16 (bank0 (s.sp - 2)) ret s
  let s2 := if two then write16 (bank0 (s.sp - 4)) s.af s1 else s1
  t.pc.toNat = 0x10 + 8 * i.val ∧ t.sp = s.sp - (if two then 4 else 2) ∧
    flagsOf t = { flagsOf s with i := false } ∧ t.halted = false ∧
    (∀ j, t.pending.getLsbD j = (s2.pending.getLsbD j && !decide (j = i.val ∧ i.val ≠ 3))) ∧
    SameRegs [] [.sp] s t ∧ SameSystem { s2 with halted := false, pending := t.pending } t ∧
    (s.mem.wf = true →
      StoredWord (bank0 (s.sp - 2)) ret s s1 ∧
        (if two then StoredWord (bank0 (s.sp - 4)) s.af s1 t else SameMemory s1 t))

/-- One count event of a timer of width `w` (60 R345): the count, the run flag and whether the event is terminal. -/
def counted (w mode count reload : Nat) (run : Bool) : Nat × Bool × Bool :=
  if mode = 2 then
    (if (count + 1) % 2 ^ w = reload then (0, run, true) else ((count + 1) % 2 ^ w, run, false))
  else if mode = 3 then (count, run, false)
  else if count = 0 then (reload, run && decide (mode ≠ 1), true)
  else (count - 1, run, false)

/-- The bits that a part of a timer has, its reload value and count being `full` (10 R39). -/
def timerBits (clk full : Word) : TimerField → Word
  | .mode => 3
  | .clk => clk
  | .run => 1
  | .reload => full
  | .count => full
  | .presc => 0xFF

/-- The bits that exist under a name of the host (10 R20, R28, R34, R35, R38, R39, 60 R318); a control register is none of
these. -/
def bitsOf : HostReg → Word
  | .half _ | .f => 0xFF
  | .pair _ | .af | .pc | .bcShadow | .deShadow | .hlShadow | .afShadow => 0xFFFF
  | .gsel | .asel | .halted | .afterEi => 1
  | .pending => 0x3FF6
  | .mask => 0x3FF8
  | .line => 0x3FFE
  | .timer8 _ k => timerBits 3 0xFF k
  | .timer4 k => timerBits 7 0xFFFF k
  | .control _ => 0

/-- The length of an UNKNOWN encoding by its first byte (30 R118). -/
def unknownLength (b : Byte) : Nat :=
  if b.toNat ≤ 0xDF then 1
  else if b = 0xE3 ∨ b = 0xEB then 4
  else if b = 0xE7 ∨ b = 0xEF ∨ b = 0xF0 ∨ b = 0xF1 ∨ b = 0xF2 ∨ b = 0xF4 ∨ b = 0xF5 ∨ b = 0xF6 then 3
  else 2

/-- Registers, F, PC and memory are as before. -/
def CoreKept (s t : State) : Prop := SameRegs [] [] s t ∧ t.f = s.f ∧ t.pc = s.pc ∧ t.mem = s.mem

/-- Nothing but timers and request latches differs. -/
def TimersOnly (s t : State) : Prop :=
  CoreKept s t ∧
    SameSystem { s with t0 := t.t0, t1 := t.t1, t2 := t.t2, t3 := t.t3, t4 := t.t4, pending := t.pending } t

/-- Cycles to a tick for the clock codes 1, 2, 3 (60 R343). -/
def ticksEvery (clk : Nat) : Nat := if clk = 1 then 1 else if clk = 2 then 16 else 256

/-- Timer 4 takes one count event from `s` to `t`, and nothing else of it changes (60 R345). -/
def CountsWide (s t : State) : Prop :=
  let r := counted 16 s.t4.mode.toNat s.t4.count.toNat s.t4.reload.toNat s.t4.run
  t.t4.count.toNat = r.1 ∧ t.t4.run = r.2.1 ∧ t.t4.mode = s.t4.mode ∧ t.t4.clk = s.t4.clk ∧
    t.t4.reload = s.t4.reload ∧ t.t4.presc = s.t4.presc ∧ t.pending.getLsbD 8 = (s.pending.getLsbD 8 || r.2.2)

/-- Timer 4 takes one count event from `s` to `t`, and nothing else changes. -/
def CountsWideOnly (s t : State) : Prop :=
  CountsWide s t ∧ TimersOnly s t ∧ (∀ i, t.timer8 i = s.timer8 i) ∧
    ∀ j, j ≠ 8 → t.pending.getLsbD j = s.pending.getLsbD j

/-- Timer i of 0..3 takes one count event from `s` to `t` (60 R345, R349): the count and the run flag, its request set by a
terminal event, timer 4 counting that event in the same cycle when it is chained to timer i, and nothing else. -/
def CountsByte (i : Fin 4) (s t : State) : Prop :=
  let u := s.timer8 i
  let r := counted 8 u.mode.toNat u.count.toNat u.reload.toNat u.run
  let chained := s.t4.run = true ∧
    ((s.t4.clk.toNat = 4 ∧ i = s.cfg.chainA) ∨ (s.t4.clk.toNat = 5 ∧ i = s.cfg.chainB))
  (t.timer8 i).count.toNat = r.1 ∧ (t.timer8 i).run = r.2.1 ∧ (t.timer8 i).mode = u.mode ∧ (t.timer8 i).clk = u.clk ∧
    (t.timer8 i).reload = u.reload ∧ (t.timer8 i).presc = u.presc ∧ (∀ j, j ≠ i → t.timer8 j = s.timer8 j) ∧
    t.pending.getLsbD (4 + i.val) = (s.pending.getLsbD (4 + i.val) || r.2.2) ∧
    (∀ j, j ≠ 4 + i.val → j ≠ 8 → t.pending.getLsbD j = s.pending.getLsbD j) ∧
    (r.2.2 = true → chained → CountsWide s t) ∧
    (r.2.2 = false ∨ ¬chained → t.t4 = s.t4 ∧ t.pending.getLsbD 8 = s.pending.getLsbD 8) ∧ TimersOnly s t

end Sys2Proof.Rules

section Statements

open Sys2Proof Sys2Proof.Machine Sys2Proof.Rules

/-! ### The machine as a whole -/

/-- 10 R52, R53, 70 R380, R381: reset gives every item of the core's state the value 0, PC 0x0000; a host reset keeps what is
outside the core (10 R53). That the memory, the adapter's and the ports' callbacks and the parameters stand in the state is
the model's choice (log entries 3, 7, 8, 16); what `State.reset` holds of them is no part of this. -/
def Obligations.ResetState : Prop :=
  (let s := State.reset
   s.pc = 0 ∧ s.sp = 0 ∧ s.ix = 0 ∧ s.iy = 0 ∧ s.gbank0 = ⟨0, 0, 0⟩ ∧ s.gbank1 = ⟨0, 0, 0⟩ ∧ s.afbank0 = 0 ∧ s.afbank1 = 0 ∧
     s.gsel = false ∧ s.asel = false ∧ s.halted = false ∧ s.afterEi = false ∧ s.residual = 0 ∧ s.pending = 0 ∧
     s.mask = 0 ∧ s.line = 0 ∧ s.bankX = 0 ∧ s.bankY = 0 ∧
     (∀ j, s.timer8 j = ⟨0, 0, false, 0, 0, 0⟩) ∧ s.t4 = ⟨0, 0, false, 0, 0, 0⟩ ∧ (flagsOf s).i = false) ∧
  ∀ s, (hostReset s).mem = s.mem ∧ (hostReset s).busAnswers = s.busAnswers ∧ (hostReset s).ports = s.ports ∧ (hostReset s).callLog = s.callLog ∧
    (hostReset s).cfg = s.cfg ∧ SameRegs [] [] State.reset (hostReset s) ∧ (hostReset s).pc = 0 ∧ (hostReset s).f = 0 ∧
    SameSystem { State.reset with busAnswers := s.busAnswers, ports := s.ports, callLog := s.callLog, cfg := s.cfg } (hostReset s)

/-- The invariant holds of the state after reset. -/
def Obligations.ResetMeetsInvariant : Prop := MachineInv State.reset

/-- Every step keeps the invariant: canonical memory (the model's own form, log entry 7), the bits that `mask`, `pending` and `line` do not have
(10 R38, 60 R318), prescalers in 0..255 (10 R39). -/
def Obligations.StepKeepsInvariant : Prop := ∀ s t, MachineInv s → step s = .next t → MachineInv t

/-- Every host call keeps the invariant (60 R373). Which names the host can write is deduced (log entry 26); that host
calls are functions between steps, and the bits the invariant excludes, are log entries 20 and 23. -/
def Obligations.HostKeepsInvariant : Prop :=
  ∀ s, MachineInv s →
    (∀ i level, MachineInv (setIrqLine i level s)) ∧ (∀ i, MachineInv (timerExtEvent8 i s)) ∧ MachineInv (timerExtEvent16 s) ∧
      (∀ n, MachineInv (burn n s)) ∧ MachineInv (hostReset s) ∧ (∀ r w, MachineInv (hostWrite r w s)) ∧ (∀ k on, MachineInv (hostWriteFlag k on s)) ∧
      (∀ n, MachineInv (hostWriteResidual n s)) ∧
      ∀ n r, run n s = .next r → MachineInv r.1

/-- 30 R94 to R98: the bytes of a well-formed instruction, with any bytes after them, decode to it and to its length,
which is 1 to 6 (R90). -/
def Obligations.DecodeOfEncode : Prop :=
  ∀ i bs, i.wellFormed = true →
    decode (encode i ++ bs) = .instr i (encode i).length ∧ lengthWellFormed (encode i).length = true

/-- 30 R107 to R112: what decodes to an instruction is that instruction's own bytes, whole and nothing more, and the
instruction is well formed. So no two encodings mean one instruction form, and no bit of an encoding is ignored. -/
def Obligations.EncodeOfDecode : Prop :=
  ∀ bs i n, decode bs = .instr i n → i.wellFormed = true ∧ n = (encode i).length ∧ bs.take n = encode i

/-- Words written out from the encodings of spec 30 decode to the instructions they stand for. -/
def Obligations.DecodedWords : Prop :=
  decode [0b00100000] = .instr (.ldAR .b) 1 ∧
  decode [0b11111011, 0b00110010] = .instr (.ldRR .d .e) 2 ∧
  decode [0b11101011, 0x34, 0x12, 0b11000110] = .instr (.jpCc .z (.mn 0x1234)) 4 ∧
  decode [0b11101011, 0x00, 0x10, 0b00111111, 0xCD, 0xAB] = .instr (.ldwAt (.mn 0x1000) 0xABCD) 6 ∧
  decode [0b11110100, 0x05, 0b00111010] = .instr (.lda .hl (.xd .ix 5)) 3 ∧
  decode [0b11111110, 0b01011001] = .instr .ldir 2 ∧
  decode [0b11100010, 0b00010000] = .instr (.rldAt (.gg .hl)) 2 ∧
  decode [0b10101011, 0x40] = .instr (.bitAtU 3 0x40) 2 ∧
  decode [0b00010111, 0x10, 0x00] = .instr (.ldar 0x0010) 3 ∧
  decode [0b00010110, 0x01, 0x00] = .instr (.addXW .sp 1) 3 ∧
  decode [0b11111111] = .instr .swi 1 ∧
  decode [0b00000100] = .unknown 1 ∧
  decode [0b11100011, 0x00, 0x10, 0b00000000] = .unknown 4

/-- 30 R118: the length of an UNKNOWN encoding by its first byte. -/
def Obligations.UnknownLength : Prop :=
  ∀ b bs n, decode (b :: bs) = .unknown n → n = unknownLength b

/-- 44 R290: an UNKNOWN encoding at PC, no interrupt to take and the core not halted: the step leaves every register, flag,
byte of memory and interrupt bit alone, moves PC by the length, costs `UNKNOWN_COST`, and then ends as every instruction
does. The second half says the same of a fetch through the register window or from a device (20 R63): the fetched bytes'
own calls are made, and nothing else happens. -/
def Obligations.UnknownHasNoEffect : Prop :=
  (∀ s n, checkInterrupts s = none → s.halted = false → fetchLeavesMemory s = false →
    decode (bytesAt 6 s.pc s) = .unknown n →
    ∃ u, step s = .next (finish s.afterEi false u) ∧ u.cost = s.cfg.unknownCost.val ∧ u.pc = s.pc + BitVec.ofNat 16 n ∧
      u.f = s.f ∧ SameRegs [] [] s u ∧ SameSystem s u ∧ SameMemory s u) ∧
  ∀ s s1, checkInterrupts s = none → s.halted = false → fetchDecode s = (none, s1) →
    ∃ u, step s = .next (finish s.afterEi false u) ∧ u.cost = s.cfg.unknownCost.val ∧
      u.pc = s.pc + BitVec.ofNat 16 (unknownLength (read8 (bank0 s.pc) s).1) ∧ u.f = s.f ∧ SameRegs [] [] s u ∧
      SameSystem { s with busAnswers := s1.busAnswers, ports := s1.ports, callLog := s1.callLog } u ∧ SameMemory s u

/-- 70 R392 (c) to (e): with no interrupt to take and the core not halted, when the bytes at PC decode to `i`, the step is
`exec` of `i` with PC past it, then the deferred enable and the time. The second half says the same of a fetch through
the register window (20 R63) or from a device, where the bytes are what the router answers. -/
def Obligations.StepRunsTheInstruction : Prop :=
  (∀ s i n, checkInterrupts s = none → s.halted = false → fetchLeavesMemory s = false →
    decode (bytesAt 6 s.pc s) = .instr i n →
    i.wellFormed = true ∧ ∃ t, exec i (s.setPc (s.pc + BitVec.ofNat 16 n)) = .next t ∧
      step s = .next (finish s.afterEi (decide (i = .ei)) t)) ∧
  ∀ s i s1, checkInterrupts s = none → s.halted = false → fetchDecode s = (some i, s1) →
    i.wellFormed = true ∧ ∃ t, exec i s1 = .next t ∧ step s = .next (finish s.afterEi (decide (i = .ei)) t)

/-- 60 R310, 70 R395: every instruction and every step answers a next state and costs at least one cycle. -/
def Obligations.EveryStepCompletes : Prop :=
  (∀ i s, ∃ t, exec i s = .next t ∧ 1 ≤ t.cost) ∧ ∀ s, Safe s ∧ ∀ t, step s = .next t → 1 ≤ t.cost

/-- 44 R288, 70 R392 (d), R397: while `after_ei` is set no interrupt is taken; the instruction after EI completes with I set
and `after_ei` clear, unless it is EI again, which keeps the deferral and I, or DI, which leaves both clear. -/
def Obligations.EnableIsDeferred : Prop :=
  ∀ s, s.afterEi = true →
    checkInterrupts s = none ∧
    (s.halted = false → ∀ i s1 t, fetchDecode s = (some i, s1) → step s = .next t →
      (i = .ei → t.afterEi = true ∧ (flagsOf t).i = (flagsOf s).i) ∧
      (i = .di → t.afterEi = false ∧ (flagsOf t).i = false) ∧
      (i ≠ .ei → i ≠ .di → t.afterEi = false ∧ (flagsOf t).i = true))

/-- 60 R360, R361: a halted core with nothing to accept spends one cycle, stays halted at the same PC, fetches nothing and
changes nothing but the timers and their requests; with a source to accept, its step is the acceptance, and the state after
is not halted. -/
def Obligations.HaltedCoreIdles : Prop :=
  ∀ s, s.halted = true →
    (checkInterrupts s = none → ∃ t, step s = .next t ∧ t = advanceCycle (s.setCost 1) ∧ t.cost = 1 ∧ t.pc = s.pc ∧
      t.halted = true ∧ t.afterEi = s.afterEi ∧ t.f = s.f ∧ SameRegs [] [] s t ∧ SameMemory s t ∧ t.callLog = s.callLog) ∧
    ∀ i, checkInterrupts s = some i →
      ∃ u t, Accepted i s.pc s u ∧ step s = .next t ∧ t = advanceTimers s.cfg.intCost.val u ∧ t.halted = false

/-- 60 R315, R322: the arbiter picks source i exactly when I is set and not deferred, i is 1 to 13, i is requested and (from
3 on) enabled, and no source of a lower number is. -/
def Obligations.ArbitrationPicksFirst : Prop :=
  ∀ s (i : Fin 14),
    let asks := fun j : Nat =>
      (if j = 3 then s.line.getLsbD 3 else s.pending.getLsbD j) = true ∧ (j < 3 ∨ s.mask.getLsbD j = true)
    checkInterrupts s = some i ↔
      (flagsOf s).i = true ∧ s.afterEi = false ∧ 1 ≤ i.val ∧ asks i.val ∧ ∀ j, 1 ≤ j → j < i.val → ¬asks j

/-- 60 R325, R327, 70 R392 (b): taking an interrupt is a step of its own: the acceptance with return address PC, then
`INT_COST` cycles of time and nothing else. -/
def Obligations.AcceptanceIsAStep : Prop :=
  ∀ s i, checkInterrupts s = some i →
    ∃ u, Accepted i s.pc s u ∧ u.cost = s.cfg.intCost.val ∧ step s = .next (advanceTimers s.cfg.intCost.val u)

/-- 60 R330, 44 R282: RETI undoes the frame of a source that pushed AF: PC, AF (and I with it) and SP come back, when the
four bytes of the frame lie in memory that keeps them. -/
def Obligations.ReturnUndoesAcceptance : Prop :=
  ∀ s (i : Fin 14), (3 ≤ i.val ∨ s.cfg.nmFrameHasAf = true) → s.mem.wf = true →
    s.keepsByte (bank0 (s.sp - 1)) = true → s.keepsByte (bank0 (s.sp - 2)) = true →
    s.keepsByte (bank0 (s.sp - 3)) = true → s.keepsByte (bank0 (s.sp - 4)) = true →
    ∃ t, exec .reti (accept i s.pc s) = .next t ∧ t.pc = s.pc ∧ t.af = s.af ∧ t.sp = s.sp ∧
      SameRegs [] [] s t ∧ (∀ b, b ≠ bank0 (s.sp - 1) → b ≠ bank0 (s.sp - 2) → b ≠ bank0 (s.sp - 3) →
        b ≠ bank0 (s.sp - 4) → t.mem.read b = s.mem.read b)

/-! ### Timers and the host interface -/

/-- 60 R342: time changes nothing but the timers and the requests 4 to 8, which it only sets; of a timer it never changes
mode, clock or reload, and it never starts one. -/
def Obligations.TimeTouchesOnlyTimers : Prop :=
  ∀ n s, let t := advanceTimers n s
    TimersOnly s t ∧
      (∀ j, s.pending.getLsbD j = true → t.pending.getLsbD j = true) ∧
      (∀ j, j < 4 ∨ 8 < j → t.pending.getLsbD j = s.pending.getLsbD j) ∧
      (∀ i, (t.timer8 i).mode = (s.timer8 i).mode ∧ (t.timer8 i).clk = (s.timer8 i).clk ∧
        (t.timer8 i).reload = (s.timer8 i).reload ∧ ((s.timer8 i).run = false → t.timer8 i = s.timer8 i)) ∧
      t.t4.mode = s.t4.mode ∧ t.t4.clk = s.t4.clk ∧ t.t4.reload = s.t4.reload ∧ (s.t4.run = false → t.t4 = s.t4)

/-- 60 R342, R343, R345, R348, R349: one count event of timer i of 0..3, by itself or as the host's `timer_ext_event`, which
acts only on a running timer with clock code 0; the same of `timer_ext_event(4)`; and one cycle of each timer: a running
timer with clock code 1, 2 or 3 counts its prescaler, and takes a count event with the prescaler cleared when it is full. -/
def Obligations.TimerCountEvent : Prop :=
  (∀ i s, CountsByte i s (tickTimer8 i s)) ∧
  (∀ i s, if (s.timer8 i).run = true ∧ (s.timer8 i).clk = 0 then CountsByte i s (timerExtEvent8 i s)
    else timerExtEvent8 i s = s) ∧
  (∀ s, if s.t4.run = true ∧ s.t4.clk = 0 then CountsWideOnly s (timerExtEvent16 s) else timerExtEvent16 s = s) ∧
  (∀ i s, let u := s.timer8 i
    if u.run = true ∧ u.clk ≠ 0 then
      if u.presc.toNat + 1 < ticksEvery u.clk.toNat then
        cycleTimer8 i s = s.setTimer8 i { u with presc := BitVec.ofNat 9 (u.presc.toNat + 1) }
      else CountsByte i (s.setTimer8 i { u with presc := 0 }) (cycleTimer8 i s)
    else cycleTimer8 i s = s) ∧
  ∀ s, let u := s.t4
    if u.run = true ∧ 1 ≤ u.clk.toNat ∧ u.clk.toNat ≤ 3 then
      if u.presc.toNat + 1 < ticksEvery u.clk.toNat then
        cycleTimer16 s = s.setTimer16 { u with presc := BitVec.ofNat 9 (u.presc.toNat + 1) }
      else CountsWideOnly (s.setTimer16 { u with presc := 0 }) (cycleTimer16 s)
    else cycleTimer16 s = s

/-- 60 R342 to R346: a free-running timer, just started on clock 1, 2 or 3 with reload r, counts down once every
`ratio` cycles; its request stays as it was until `(r + 1) * ratio` cycles have passed; then it is set and the count is r
again. First for timer i of 0..3, then for timer 4; the other timers do as they like. -/
def Obligations.FreeRunPeriod : Prop :=
  (∀ (i : Fin 4) s,
    let u := s.timer8 i
    let k := ticksEvery u.clk.toNat
    u.run = true → u.mode = 0 → u.clk ≠ 0 → u.presc = 0 → u.count = u.reload →
      (∀ n, n < (u.reload.toNat + 1) * k →
        ((advanceTimers n s).timer8 i).count.toNat = u.reload.toNat - n / k ∧
          (advanceTimers n s).pending.getLsbD (4 + i.val) = s.pending.getLsbD (4 + i.val)) ∧
      (let t := advanceTimers ((u.reload.toNat + 1) * k) s
       (t.timer8 i).count = u.reload ∧ (t.timer8 i).run = true ∧ t.pending.getLsbD (4 + i.val) = true)) ∧
  ∀ s,
    let u := s.t4
    let k := ticksEvery u.clk.toNat
    u.run = true → u.mode = 0 → 1 ≤ u.clk.toNat → u.clk.toNat ≤ 3 → u.presc = 0 → u.count = u.reload →
      (∀ n, n < (u.reload.toNat + 1) * k →
        (advanceTimers n s).t4.count.toNat = u.reload.toNat - n / k ∧
          (advanceTimers n s).pending.getLsbD 8 = s.pending.getLsbD 8) ∧
      (let t := advanceTimers ((u.reload.toNat + 1) * k) s
       t.t4.count = u.reload ∧ t.t4.run = true ∧ t.pending.getLsbD 8 = true)

/-- 60 R314, R316, R318: the level of a line is recorded; a rising edge of an edge-triggered source latches a request;
nothing else changes; source 0 has no line. -/
def Obligations.LineSetsRequest : Prop :=
  ∀ (i : Fin 14) level s,
    let t := setIrqLine i level s
    (∀ j, t.line.getLsbD j = (if j = i.val ∧ j ≠ 0 then level else s.line.getLsbD j)) ∧
    (∀ j, t.pending.getLsbD j =
      (s.pending.getLsbD j || decide (j = i.val ∧ j ≠ 0 ∧ j ≠ 3 ∧ s.line.getLsbD j = false ∧ level = true))) ∧
    SameRegs [] [] s t ∧ t.pc = s.pc ∧ t.f = s.f ∧ t.mem = s.mem ∧
    SameSystem { s with line := t.line, pending := t.pending } t

/-- 60 R370: `run` split in two calls of the same total budget gives the same final state and the same
total of cycles. The loop's fuel is log entry 25. -/
def Obligations.RunSplitInvariance : Prop :=
  ∀ a b s, ∃ s1 u1 s2 u2, run a s = .next (s1, u1) ∧ run b s1 = .next (s2, u2) ∧ run (a + b) s = .next (s2, u1 + u2)

/-- 10 R46, 60 R366, R371: the host reads back what it writes under any name, in the bits that exist, and nothing else
changes; what it reads determines the core; a control register it reads and writes as a program does (which names there
are, and this, are deduced: log entry 26); a write of one bit of F changes that bit alone; `burn` only advances the timers. -/
def Obligations.HostRegisterAccess : Prop :=
  (∀ s r w, (∀ c, r ≠ .control c) →
    hostRead (hostWrite r w s) r = w &&& Rules.bitsOf r ∧ (hostWrite r w s).mem = s.mem) ∧
  (∀ s r w, let t := hostWrite r w s
    match r with
    | .half q => t.f = s.f ∧ t.pc = s.pc ∧ SameRegs [q] [] s t ∧ SameSystem s t
    | .pair g => t.f = s.f ∧ t.pc = s.pc ∧ SameRegs (halvesOf g) (wideOf g) s t ∧ SameSystem s t
    | .f => t.pc = s.pc ∧ SameRegs [] [] s t ∧ SameSystem s t
    | .af => t.pc = s.pc ∧ SameRegs [.a] [] s t ∧ SameSystem s t
    | .pc => t.f = s.f ∧ SameRegs [] [] s t ∧ SameSystem s t
    | .gsel | .asel =>
      t.gbank0 = s.gbank0 ∧ t.gbank1 = s.gbank1 ∧ t.afbank0 = s.afbank0 ∧ t.afbank1 = s.afbank1 ∧ t.pc = s.pc ∧
        (∀ x, t.get16 (RegX.reg16 x) = s.get16 (RegX.reg16 x)) ∧ (r ≠ .gsel → t.gsel = s.gsel) ∧
        (r ≠ .asel → t.asel = s.asel) ∧ SameSystem s t
    | .halted => CoreKept s t ∧ SameSystem { s with halted := t.halted } t
    | .afterEi => CoreKept s t ∧ SameSystem { s with afterEi := t.afterEi } t
    | .pending => CoreKept s t ∧ SameSystem { s with pending := t.pending } t
    | .mask => CoreKept s t ∧ SameSystem { s with mask := t.mask } t
    | .line => CoreKept s t ∧ SameSystem { s with line := t.line } t
    | .timer8 i k =>
      CoreKept s t ∧ SameSystem { s with t0 := t.t0, t1 := t.t1, t2 := t.t2, t3 := t.t3 } t ∧
        ∀ i' k', (i' ≠ i ∨ k' ≠ k) → hostRead t (.timer8 i' k') = hostRead s (.timer8 i' k')
    | .timer4 k =>
      CoreKept s t ∧ SameSystem { s with t4 := t.t4 } t ∧
        ∀ k', k' ≠ k → hostRead t (.timer4 k') = hostRead s (.timer4 k')
    | .control _ => CoreKept s t
    | .bcShadow | .deShadow | .hlShadow | .afShadow =>
      t.f = s.f ∧ t.pc = s.pc ∧ (∀ q, t.get8 q = s.get8 q) ∧ SameSystem s t ∧
        (∀ x, t.get16 (RegX.reg16 x) = s.get16 (RegX.reg16 x)) ∧ t.gsel = s.gsel ∧ t.asel = s.asel ∧
        (r ≠ .bcShadow → t.genShadow.bc = s.genShadow.bc) ∧ (r ≠ .deShadow → t.genShadow.de = s.genShadow.de) ∧
        (r ≠ .hlShadow → t.genShadow.hl = s.genShadow.hl) ∧ (r ≠ .afShadow → t.afShadow = s.afShadow)) ∧
  (∀ n s, let t := hostWriteResidual n s
    t.residual = n ∧ CoreKept s t ∧ SameSystem { s with residual := n } t) ∧
  (∀ s t, (∀ r, hostRead s r = hostRead t r) → s.residual = t.residual →
    { s with mem := t.mem, busAnswers := t.busAnswers, ports := t.ports, callLog := t.callLog, cost := t.cost,
             freeCount := t.freeCount, cfg := t.cfg } = t) ∧
  (∀ c : ControlReg, (∃ a, claimed a = some c.ioReg) ∧
    ∀ a s w, claimed a = some c.ioReg →
      hostRead s (.control c) = (read8 a s).1.setWidth 16 ∧ hostWrite (.control c) w s = write8 a (loByte w) s) ∧
  (∀ s (k : Fin 8) on, let t := hostWriteFlag k on s
    (∀ j, j < 8 → t.f.getLsbD j = (if j = k.val then on else s.f.getLsbD j)) ∧ SameRegs [] [] s t ∧ t.pc = s.pc ∧
      t.mem = s.mem ∧ SameSystem s t) ∧
  ∀ n s, burn n s = advanceTimers n s

/-! ### Memory, the register window, addresses -/

/-- 10 R41, 20 R60, R62, R63, R65, R71, R75: the claimed addresses are those listed (25 of them, not the 22 of the text: log
entry 2), in bank 0 only, and every other access goes to the adapter, which is one of the three kinds of log entry 16
there: memory that keeps what is written, memory that only answers, or a device, each access of which is one call. A word
is two byte accesses, the low byte first, wrapping inside its bank. -/
def Obligations.AccessRouter : Prop :=
  (∀ a : Addr, (claimed a).isSome = true ↔
    a.toNat ∈ [0xFFC0, 0xFFC1, 0xFFC2, 0xFFC3, 0xFFC4, 0xFFC6, 0xFFC8, 0xFFCA, 0xFFCC, 0xFFCD, 0xFFD0, 0xFFD4, 0xFFD5,
      0xFFD6, 0xFFD7, 0xFFD8, 0xFFDA, 0xFFDB, 0xFFE0, 0xFFE1, 0xFFE4, 0xFFE6, 0xFFE7, 0xFFEC, 0xFFED]) ∧
  (∀ (a : Addr) (s : State), (∀ r ∈ s.cfg.memMap, a.toNat < r.base ∨ r.base + r.size ≤ a.toNat) → s.memKind a = .plain) ∧
  (∀ a s, claimed a = none → s.memKind a ≠ .device → read8 a s = (s.mem.read a, s)) ∧
  (∀ a v s, claimed a = none → s.memKind a = .plain → s.mem.wf = true →
    (∀ b, (write8 a v s).mem.read b = if b = a then v else s.mem.read b) ∧ SameRegs [] [] s (write8 a v s) ∧
      SameSystem s (write8 a v s) ∧ (write8 a v s).f = s.f ∧ (write8 a v s).pc = s.pc) ∧
  (∀ a v s, claimed a = none → s.memKind a = .readOnly → write8 a v s = s) ∧
  (∀ a s, claimed a = none → s.memKind a = .device →
    let r := read8 a s
    (∀ v vs, s.busAnswers = v :: vs → r.1 = v ∧ r.2.busAnswers = vs) ∧
      (s.busAnswers = [] → r.2.busAnswers = []) ∧ r.2.callLog = .memRead a r.1 :: s.callLog ∧ CoreKept s r.2 ∧
      SameSystem { s with busAnswers := r.2.busAnswers, callLog := r.2.callLog } r.2 ∧
      ∀ v, CoreKept s (write8 a v s) ∧ SameSystem { s with callLog := .memWrite a v :: s.callLog } (write8 a v s)) ∧
  (∀ a v s, claimed a ≠ none → (write8 a v s).mem = s.mem) ∧
  (∀ a s, (read8 a s).2.mem = s.mem) ∧
  ∀ a s,
    (read16 a s).1.toNat = (read8 a s).1.toNat + 256 * (read8 (nextAddr a) (read8 a s).2).1.toNat ∧
    (read16 a s).2 = (read8 (nextAddr a) (read8 a s).2).2 ∧
    (∀ w, write16 a w s = write8 (nextAddr a) (hiByte w) (write8 a (loByte w) s)) ∧
    (nextAddr a).toNat = a.toNat / 65536 * 65536 + (a.toNat + 1) % 65536

/-- 10 R42 to R49, R51: what a read of each control register answers, bit by bit; it changes nothing. -/
def Obligations.ControlRegisterReads : Prop :=
  ∀ s,
    (∀ i : Fin 4, read8 (0xFFD4 + BitVec.ofNat 20 i.val) s = ((s.timer8 i).reload, s)) ∧
    read8 0xFFE0 s = (loByte s.t4.reload, s) ∧ read8 0xFFE1 s = (hiByte s.t4.reload, s) ∧
    ((read8 0xFFD8 s).2 = s ∧ (read8 0xFFDA s).2 = s ∧ ∀ i : Fin 4,
      (read8 0xFFD8 s).1.extractLsb' (2 * i.val) 2 = (s.timer8 i).clk ∧
      (read8 0xFFDA s).1.extractLsb' (2 * i.val) 2 = (s.timer8 i).mode) ∧
    ((read8 0xFFDB s).2 = s ∧ (∀ i : Fin 4, (read8 0xFFDB s).1.getLsbD i.val = (s.timer8 i).run) ∧
      (read8 0xFFDB s).1.getLsbD 4 = s.t4.run ∧ (read8 0xFFDB s).1.extractLsb' 5 3 = 0) ∧
    ((read8 0xFFE4 s).2 = s ∧ (read8 0xFFE4 s).1.extractLsb' 0 3 = s.t4.clk ∧
      (read8 0xFFE4 s).1.extractLsb' 4 2 = s.t4.mode ∧ (read8 0xFFE4 s).1.getLsbD 3 = false ∧
      (read8 0xFFE4 s).1.extractLsb' 6 2 = 0) ∧
    ((read8 0xFFC2 s).2 = s ∧ ∀ j, j < 8 → (read8 0xFFC2 s).1.getLsbD j =
      (if j = 0 then false else if j = 3 then s.line.getLsbD 3 else s.pending.getLsbD j)) ∧
    ((read8 0xFFC3 s).2 = s ∧ ∀ j, j < 8 → (read8 0xFFC3 s).1.getLsbD j =
      (if j < 6 then s.pending.getLsbD (8 + j) else false)) ∧
    ((read8 0xFFE6 s).2 = s ∧ ∀ j, j < 8 → (read8 0xFFE6 s).1.getLsbD j =
      (if 3 ≤ j then s.mask.getLsbD j else false)) ∧
    ((read8 0xFFE7 s).2 = s ∧ ∀ j, j < 8 → (read8 0xFFE7 s).1.getLsbD j =
      (if j < 6 then s.mask.getLsbD (8 + j) else false)) ∧
    (read8 0xFFEC s = (s.bankX.setWidth 8, s) ∧ read8 0xFFED s = (s.bankY.setWidth 8, s))

/-- 10 R42 to R49, R51, 60 R341: what a write of each control register changes, and that it changes nothing else; reserved
bits are ignored. -/
def Obligations.ControlRegisterWrites : Prop :=
  ∀ s (v : Byte),
    (∀ i : Fin 4, let t := write8 (0xFFD4 + BitVec.ofNat 20 i.val) v s
      t.timer8 i = { s.timer8 i with reload := v } ∧ (∀ j, j ≠ i → t.timer8 j = s.timer8 j) ∧ t.t4 = s.t4 ∧
        t.pending = s.pending) ∧
    (write8 0xFFE0 v s).t4 = { s.t4 with reload := joinBytes (hiByte s.t4.reload) v } ∧
    (write8 0xFFE1 v s).t4 = { s.t4 with reload := joinBytes v (loByte s.t4.reload) } ∧
    (∀ i : Fin 4, (write8 0xFFD8 v s).timer8 i = { s.timer8 i with clk := v.extractLsb' (2 * i.val) 2 } ∧
      (write8 0xFFDA v s).timer8 i = { s.timer8 i with mode := v.extractLsb' (2 * i.val) 2 }) ∧
    (write8 0xFFE4 v s).t4 = { s.t4 with clk := v.extractLsb' 0 3, mode := v.extractLsb' 4 2 } ∧
    (∀ i : Fin 4, (write8 0xFFDB v s).timer8 i =
      (if v.getLsbD i.val = true ∧ (s.timer8 i).run = false then
        { s.timer8 i with
          count := if (s.timer8 i).mode.toNat = 2 then 0 else (s.timer8 i).reload, presc := 0, run := true }
      else { s.timer8 i with run := v.getLsbD i.val })) ∧
    (write8 0xFFDB v s).t4 =
      (if v.getLsbD 4 = true ∧ s.t4.run = false then
        { s.t4 with count := if s.t4.mode.toNat = 2 then 0 else s.t4.reload, presc := 0, run := true }
      else { s.t4 with run := v.getLsbD 4 }) ∧
    (∀ j, (write8 0xFFC2 v s).pending.getLsbD j =
      (s.pending.getLsbD j && !(decide (j < 8 ∧ j ≠ 3) && v.getLsbD j))) ∧
    (∀ j, (write8 0xFFC3 v s).pending.getLsbD j =
      (s.pending.getLsbD j && !(decide (8 ≤ j ∧ j < 14) && v.getLsbD (j - 8)))) ∧
    (∀ j, (write8 0xFFE6 v s).mask.getLsbD j =
      (if 8 ≤ j then s.mask.getLsbD j else decide (3 ≤ j) && v.getLsbD j)) ∧
    (∀ j, j < 14 → (write8 0xFFE7 v s).mask.getLsbD j = (if 8 ≤ j then v.getLsbD (j - 8) else s.mask.getLsbD j)) ∧
    ((write8 0xFFEC v s).bankX = v.extractLsb' 0 4 ∧ (write8 0xFFED v s).bankY = v.extractLsb' 0 4) ∧
    let only := fun (a : Addr) (u : State → State) =>
      CoreKept s (write8 a v s) ∧ SameSystem (u (write8 a v s)) (write8 a v s)
    (∀ i : Fin 4, only (0xFFD4 + BitVec.ofNat 20 i.val)
      fun t => { s with t0 := t.t0, t1 := t.t1, t2 := t.t2, t3 := t.t3 }) ∧
      (∀ a ∈ [(0xFFD8 : Addr), 0xFFDA], only a
        (fun t => { s with t0 := t.t0, t1 := t.t1, t2 := t.t2, t3 := t.t3 }) ∧ ∀ i,
          (write8 a v s).timer8 i =
            { s.timer8 i with clk := ((write8 a v s).timer8 i).clk, mode := ((write8 a v s).timer8 i).mode }) ∧
      (∀ a ∈ [(0xFFE0 : Addr), 0xFFE1, 0xFFE4], only a fun t => { s with t4 := t.t4 }) ∧
      only 0xFFDB (fun t => { s with t0 := t.t0, t1 := t.t1, t2 := t.t2, t3 := t.t3, t4 := t.t4 }) ∧
      (∀ a ∈ [(0xFFC2 : Addr), 0xFFC3], only a fun t => { s with pending := t.pending }) ∧
      (∀ a ∈ [(0xFFE6 : Addr), 0xFFE7], only a fun t => { s with mask := t.mask }) ∧
      only 0xFFEC (fun t => { s with bankX := t.bankX }) ∧ only 0xFFED fun t => { s with bankY := t.bankY }

/-- 10 R50, 20 R76, 60 R355: an unconnected port reads `PORT_DEFAULT` and drops writes; a connected one answers a connected one answers the
callback's value once for each read, the next listed one or a free value past the list (log entry 8), and each access is
one call, which changes nothing else. -/
def Obligations.PortAccess : Prop :=
  ∀ (n : Fin 9) s,
    (s.ports[n] = .unconnected → readPort n s = (s.cfg.portDefault, s) ∧ ∀ v, writePort n v s = s) ∧
    (∀ v vs, s.ports[n] = .connected (v :: vs) →
      (readPort n s).1 = v ∧ (readPort n s).2.ports[n] = .connected vs ∧
        (readPort n s).2.callLog = .portRead n v :: s.callLog) ∧
    (s.ports[n] = .connected [] →
      (readPort n s).2.ports[n] = .connected [] ∧
        (readPort n s).2.callLog = .portRead n (readPort n s).1 :: s.callLog) ∧
    (∀ vs, s.ports[n] = .connected vs →
      ∀ v, (writePort n v s).ports = s.ports ∧ (writePort n v s).callLog = .portWrite n v :: s.callLog) ∧
    (let t := (readPort n s).2
     CoreKept s t ∧ SameSystem { s with ports := t.ports, callLog := t.callLog } t) ∧
    (∀ v, let t := writePort n v s
      CoreKept s t ∧ SameSystem { s with callLog := t.callLog } t) ∧
    (∀ m : Fin 9, m ≠ n → (readPort n s).2.ports[m] = s.ports[m]) ∧
    (∀ a, claimed a = some (.port n) → read8 a s = readPort n s ∧ ∀ v, write8 a v s = writePort n v s) ∧
    [(0xFFC0 : Addr), 0xFFC1, 0xFFC4, 0xFFC6, 0xFFC8, 0xFFCA, 0xFFCC, 0xFFCD, 0xFFD0].map claimed =
      (List.finRange 9).map fun k => some (.port k)

/-- 20 R68, 30 R100 to R104: the 20-bit address of each memory operand: BX or BY above the effective address for IX and
IY, bank 0 else; displacements and A are signed and never carry into the bank. -/
def Obligations.OperandAddress : Prop :=
  ∀ s,
    (∀ w, (addr (.mn w) s).toNat = w.toNat) ∧
    (∀ u : Byte, (addr (.dp u) s).toNat = 0xFF00 + u.toNat) ∧
    (∀ g, (addr (.gg g) s).toNat =
      (s.get16 g).toNat +
        65536 * (if g = .ix then s.bankX.toNat else if g = .iy then s.bankY.toNat else 0)) ∧
    (∀ x (d : Byte), ((addr (.xd x d) s).toNat : Int) =
      ((s.get16 (RegX.reg16 x)).toNat + d.toInt) % 65536 +
        65536 * (if x = .ix then s.bankX.toNat else if x = .iy then s.bankY.toNat else 0)) ∧
    ((addr .hla s).toNat : Int) = ((s.get16 .hl).toNat + (s.get8 .a).toInt) % 65536

/-! ### Rules over all instructions -/

/-- 10 R22, R23, R34 to R36, R53: of all instructions only EXX changes the general bank selector, only `EX AF,AF'` the AF
bank selector, only HALT sets `halted` and only SWI clears it, only EI sets `after_ei` and only DI clears it; none changes
`residual`, a line or a parameter. -/
def Obligations.SelectorsAndContext : Prop :=
  ∀ i s t, exec i s = .next t →
    (i ≠ .exx → t.gsel = s.gsel) ∧ (i ≠ .exAfAf → t.asel = s.asel) ∧
      (i ≠ .halt → t.halted = true → s.halted = true) ∧ (i ≠ .halt → i ≠ .swi → t.halted = s.halted) ∧
      (i ≠ .ei → t.afterEi = true → s.afterEi = true) ∧ (i ≠ .ei → i ≠ .di → t.afterEi = s.afterEi) ∧
      t.residual = s.residual ∧ t.line = s.line ∧ t.cfg = s.cfg

/-- 10 R30: of all instructions only DI, SWI, RETI, `POP AF` and `EX AF,AF'` change the I flag (EI sets it by the deferred
effect of the engine, after the next instruction). -/
def Obligations.InterruptEnableKept : Prop :=
  ∀ i s t, exec i s = .next t → i ≠ .di → i ≠ .swi → i ≠ .reti → i ≠ .pop .af → i ≠ .exAfAf →
    (flagsOf t).i = (flagsOf s).i

/-- 70 R395, 44 R275: the two costs of the conditional and repeating instructions, with the default costs (log entry 6).
`pen` is the prefix penalty of R395. -/
def Obligations.ConditionalCosts : Prop :=
  ∀ s, s.cfg.cyc = .spec → ∀ cc e m,
    let pen := fun m : Mem => match m with | .gg _ => 0 | .dp _ => 2 | .mn _ => 4 | .xd _ _ => 4 | .hla => 8
    let holds := condition cc (flagsOf s)
    (∃ t, exec (.jr cc e) s = .next t ∧ t.cost = if holds then 8 else 4) ∧
    (∃ t, exec (.jpCc cc m) s = .next t ∧ t.cost = if holds then 8 + pen m else 6 + pen m) ∧
    (∃ t, exec (.callCc cc m) s = .next t ∧ t.cost = if holds then 14 + pen m else 6 + pen m) ∧
    (∃ t, exec (.retCc cc) s = .next t ∧ t.cost = if holds then 14 else 6) ∧
    (∃ t, exec (.djnz e) s = .next t ∧ t.cost = if s.get8 .b = 1 then 6 else 10) ∧
    (∃ t, exec (.djnzBc e) s = .next t ∧ t.cost = if s.get16 .bc = 1 then 6 else 10) ∧
    (∃ t, exec (.incx e) s = .next t ∧ t.cost = if (flagsOf s).x then 10 else 6) ∧
    (∃ t, exec (.decx e) s = .next t ∧ t.cost = if (flagsOf s).x then 10 else 6) ∧
    (∃ t, exec .ldir s = .next t ∧ t.cost = if s.get16 .bc = 1 then 14 else 18) ∧
    (∃ t, exec .lddr s = .next t ∧ t.cost = if s.get16 .bc = 1 then 14 else 18) ∧
    let last := s.get16 .bc = 1 ∨ s.get8 .a = (read8 (bank0 (s.get16 .hl)) s).1
    (∃ t, exec .cpir s = .next t ∧ t.cost = if last then 14 else 18) ∧
    (∃ t, exec .cpdr s = .next t ∧ t.cost = if last then 14 else 18)

/-! ### Loads, stores, stack, exchanges -/

/-- 40 R131, R132, R133: the 8-bit loads. -/
def Obligations.LoadByte : Prop :=
  ∀ s,
    (∀ r, LoadsByte .a (s.get8 r) s s (exec (.ldAR r) s)) ∧
    (∀ r, LoadsByte r (s.get8 .a) s s (exec (.ldRA r) s)) ∧
    (∀ r p, LoadsByte r (s.get8 p) s s (exec (.ldRR r p) s)) ∧
    (∀ r n, LoadsByte r n s s (exec (.ldRN r n) s)) ∧
    (∀ u, LoadsByte .a (read8 (addr (.dp u) s) s).1 s (read8 (addr (.dp u) s) s).2 (exec (.ldAAtU u) s)) ∧
    (∀ r m, LoadsByte r (read8 (addr m s) s).1 s (read8 (addr m s) s).2 (exec (.ldRAt r m) s))

/-- 40 R134, R135: the 8-bit stores. -/
def Obligations.StoreByte : Prop :=
  ∀ s, s.mem.wf = true →
    (∀ m r, StoresByte (addr m s) (s.get8 r) s s (exec (.ldAtR m r) s)) ∧
    (∀ m n, StoresByte (addr m s) n s s (exec (.ldAtN m n) s)) ∧
    (∀ u, StoresByte (addr (.dp u) s) (s.get8 .a) s s (exec (.ldAtUA u) s)) ∧
    (∀ u n, StoresByte (addr (.dp u) s) n s s (exec (.ldAtUN u n) s))

/-- 40 R136, R137, R138, R141, R142: the 16-bit loads, LDA and LDAR. -/
def Obligations.LoadWord : Prop :=
  ∀ s,
    (∀ g w, LoadsWord g w s s (exec (.ldGW g w) s)) ∧
    (∀ g, LoadsWord .hl (s.get16 g) s s (exec (.ldHlG g) s)) ∧
    (∀ g, LoadsWord g (s.get16 .hl) s s (exec (.ldGHl g) s)) ∧
    (∀ g p, LoadsWord g (s.get16 p) s s (exec (.ldGG g p) s)) ∧
    (∀ u, LoadsWord .hl (read16 (addr (.dp u) s) s).1 s (read16 (addr (.dp u) s) s).2 (exec (.ldHlAtU u) s)) ∧
    (∀ g m, LoadsWord g (read16 (addr m s) s).1 s (read16 (addr m s) s).2 (exec (.ldGAt g m) s)) ∧
    (∀ g x (d : Byte), LoadsWord g (displaced (s.get16 (RegX.reg16 x)) d.toInt) s s (exec (.lda g (.xd x d)) s)) ∧
    (∀ g, LoadsWord g (displaced (s.get16 .hl) (s.get8 .a).toInt) s s (exec (.lda g .hla) s)) ∧
    (∀ st : Word, LoadsWord .hl (displaced s.pc (bias s + st.toInt)) s s (exec (.ldar st) s))

/-- 40 R139, R140: the 16-bit stores. -/
def Obligations.StoreWord : Prop :=
  ∀ s, s.mem.wf = true →
    (∀ m g, StoresWord (addr m s) (s.get16 g) s s (exec (.ldAtG m g) s)) ∧
    (∀ m w, StoresWord (addr m s) w s s (exec (.ldwAt m w) s)) ∧
    (∀ u, StoresWord (addr (.dp u) s) (s.get16 .hl) s s (exec (.ldAtUHl u) s)) ∧
    (∀ u w, StoresWord (addr (.dp u) s) w s s (exec (.ldwAtU u w) s))

/-- 40 R143, R144, 20 R72: PUSH and POP of every register. `POP AF` replaces A and all of F. -/
def Obligations.PushAndPop : Prop :=
  ∀ s q,
    let a := bank0 (s.sp - 2)
    let v := read16 (bank0 s.sp) s
    (s.mem.wf = true → ∃ t, exec (.push q) s = .next t ∧ t.sp = s.sp - 2 ∧ t.f = s.f ∧
      Frame [] [.sp] s (write16 a (s.getQ q) s) t ∧ StoredWord a (s.getQ q) s t) ∧
    ∃ t, exec (.pop q) s = .next t ∧ t.getQ q = v.1 ∧ t.sp = s.sp + 2 ∧ (q ≠ .af → t.f = s.f) ∧ SameMemory s t ∧
      Frame
        (match q with | .bc => [.b, .c] | .de => [.d, .e] | .hl => [.h, .l] | .af => [.a] | _ => [])
        (match q with | .ix => [.ix, .sp] | .iy => [.iy, .sp] | _ => [.sp]) s v.2 t

/-- 40 R145, R146, R147: `EX DE,HL`, `EX AF,AF'`, EXX; the last two, done twice, leave every register and shadow as it
was. -/
def Obligations.RegisterExchanges : Prop :=
  (∀ s, ∃ t, exec .exDeHl s = .next t ∧ t.get16 .de = s.get16 .hl ∧ t.get16 .hl = s.get16 .de ∧ t.f = s.f ∧
    Frame [.d, .e, .h, .l] [] s s t ∧ SameMemory s t) ∧
  (∀ s, ∃ t, exec .exAfAf s = .next t ∧ t.af = s.afShadow ∧ t.afShadow = s.af ∧ t.gen = s.gen ∧
    t.genShadow = s.genShadow ∧ t.ix = s.ix ∧ t.iy = s.iy ∧ t.sp = s.sp ∧ t.pc = s.pc ∧ SameSystem s t ∧ SameMemory s t ∧
    ∃ u, exec .exAfAf t = .next u ∧ SameRegs [] [] s u ∧ u.f = s.f) ∧
  ∀ s, ∃ t, exec .exx s = .next t ∧ t.gen = s.genShadow ∧ t.genShadow = s.gen ∧ t.af = s.af ∧ t.afShadow = s.afShadow ∧
    t.ix = s.ix ∧ t.iy = s.iy ∧ t.sp = s.sp ∧ t.pc = s.pc ∧ SameSystem s t ∧ SameMemory s t ∧
    ∃ u, exec .exx t = .next u ∧ SameRegs [] [] s u ∧ u.f = s.f

/-- 40 R148: `EX (m),gg`: the old word of memory in the register, the old register at the address, computed once from the
registers before. -/
def Obligations.MemoryExchange : Prop :=
  ∀ s m g, s.mem.wf = true →
    let a := addr m s
    let v := read16 a s
    ∃ t, exec (.exAt m g) s = .next t ∧ t.get16 g = v.1 ∧ t.f = s.f ∧
      Frame (halvesOf g) (wideOf g) s (write16 a (s.get16 g) v.2) t ∧ StoredWord a (s.get16 g) s t

/-- 41 R170 to R173, R178: one element of LDI, LDIR, LDD, LDDR. -/
def Obligations.BlockCopy : Prop :=
  CopiesElement 1 false .ldi ∧ CopiesElement 1 true .ldir ∧ CopiesElement 0xFFFF false .ldd ∧
    CopiesElement 0xFFFF true .lddr

/-- 41 R174 to R178: one element of CPI, CPIR, CPD, CPDR. -/
def Obligations.BlockCompare : Prop :=
  ComparesElement 1 false .cpi ∧ ComparesElement 1 true .cpir ∧ ComparesElement 0xFFFF false .cpd ∧
    ComparesElement 0xFFFF true .cpdr

/-! ### Arithmetic and logic -/

/-- 42 R185, R189, R190, R191: ADD and ADC on bytes, in every form. -/
def Obligations.AddBytes : Prop :=
  ByteForms (fun a b k => sum 4 a b false k) true .addAAtU .addAN .addAAt .addAR .addRN .addAtN ∧
  ByteForms (fun a b k => sum 4 a b k.c k) true .adcAAtU .adcAN .adcAAt .adcAR .adcRN .adcAtN

/-- 42 R186, R189, R192, R193, R197: SUB, SBC and CP on bytes, in every form; CP writes nothing but flags. -/
def Obligations.SubtractBytes : Prop :=
  ByteForms (fun a b k => difference 4 a b false k) true .subAAtU .subAN .subAAt .subAR .subRN .subAtN ∧
  ByteForms (fun a b k => difference 4 a b k.c k) true .sbcAAtU .sbcAN .sbcAAt .sbcAR .sbcRN .sbcAtN ∧
  ByteForms (fun a b k => difference 4 a b false k) false .cpAAtU .cpAN .cpAAt .cpAR .cpRN .cpAtN

/-- 42 R187, R189, R194, R195, R196: AND, XOR and OR on bytes, in every form. -/
def Obligations.LogicBytes : Prop :=
  ByteForms (fun a b k => logicByte (a &&& b) true k) true .andAAtU .andAN .andAAt .andAR .andRN .andAtN ∧
  ByteForms (fun a b k => logicByte (a ^^^ b) false k) true .xorAAtU .xorAN .xorAAt .xorAR .xorRN .xorAtN ∧
  ByteForms (fun a b k => logicByte (a ||| b) false k) true .orAAtU .orAN .orAAt .orAR .orRN .orAtN

/-- 42 R188, R205, R206, R207: ADD HL and ADC HL, in every form. -/
def Obligations.AddWords : Prop :=
  WordForms (fun a b k => sum 12 a b false k) true .addHlAtU .addHlW .addHlAt .addHlG ∧
  WordForms (fun a b k => sum 12 a b k.c k) true .adcHlAtU .adcHlW .adcHlAt .adcHlG

/-- 42 R188, R205, R208, R209, R213: SUB HL, SBC HL and CP HL, in every form; CP writes nothing but flags. -/
def Obligations.SubtractWords : Prop :=
  WordForms (fun a b k => difference 12 a b false k) true .subHlAtU .subHlW .subHlAt .subHlG ∧
  WordForms (fun a b k => difference 12 a b k.c k) true .sbcHlAtU .sbcHlW .sbcHlAt .sbcHlG ∧
  WordForms (fun a b k => difference 12 a b false k) false .cpHlAtU .cpHlW .cpHlAt .cpHlG

/-- 42 R188, R205, R210, R211, R212: AND HL, XOR HL and OR HL, in every form. -/
def Obligations.LogicWords : Prop :=
  WordForms (fun a b k => logicWord (a &&& b) true k) true .andHlAtU .andHlW .andHlAt .andHlG ∧
  WordForms (fun a b k => logicWord (a ^^^ b) false k) true .xorHlAtU .xorHlW .xorHlAt .xorHlG ∧
  WordForms (fun a b k => logicWord (a ||| b) false k) true .orHlAtU .orHlW .orHlAt .orHlG

/-- 42 R214: `ADD ix,src` in its three forms. -/
def Obligations.AddToIndex : Prop :=
  ∀ s x,
    (∀ w, AddsToIndex x w s s (exec (.addXW x w) s)) ∧
    (∀ p, AddsToIndex x (s.get16 p) s s (exec (.addXG x p) s)) ∧
    (∀ m, AddsToIndex x (read16 (addr m s) s).1 s (read16 (addr m s) s).2 (exec (.addXAt x m) s))

/-- 42 R215, R216, R221, R222: INC, DEC, INCX and DECX on bytes; INCX and DECX do nothing when X is clear. -/
def Obligations.IncrementBytes : Prop :=
  (∀ s r, IntoReg (increment 4) true r s s (exec (.incR r) s) ∧ IntoReg (decrement 4) true r s s (exec (.decR r) s)) ∧
  ∀ s, s.mem.wf = true →
    (∀ m, IntoByte (increment 4) true m s (exec (.incAt m) s) ∧ IntoByte (decrement 4) true m s (exec (.decAt m) s)) ∧
    (∀ u, IntoByte (increment 4) true (.dp u) s (exec (.incAtU u) s) ∧
      IntoByte (decrement 4) true (.dp u) s (exec (.decAtU u) s)) ∧
    ∀ u, if (flagsOf s).x then
        IntoByte (increment 4) true (.dp u) s (exec (.incx u) s) ∧ IntoByte (decrement 4) true (.dp u) s (exec (.decx u) s)
      else Nothing s (exec (.incx u) s) ∧ Nothing s (exec (.decx u) s)

/-- 42 R217 to R220: `INC gg` and `DEC gg` (no flag), INCW and DECW. -/
def Obligations.IncrementWords : Prop :=
  (∀ s g, LoadsWord g (BitVec.ofNat 16 ((s.get16 g).toNat + 1)) s s (exec (.incG g) s) ∧
    LoadsWord g (BitVec.ofNat 16 ((s.get16 g).toNat + 65535)) s s (exec (.decG g) s)) ∧
  ∀ s, s.mem.wf = true →
    (∀ m, IntoWord (increment 12) m s (exec (.incwAt m) s) ∧ IntoWord (decrement 12) m s (exec (.decwAt m) s)) ∧
    (∀ u, IntoWord (increment 12) (.dp u) s (exec (.incwAtU u) s) ∧
      IntoWord (decrement 12) (.dp u) s (exec (.decwAtU u) s))

/-- 42 R223, R224, R225: NEG, CPL, DAA. -/
def Obligations.AdjustAccumulator : Prop :=
  ∀ s,
    IntoReg (fun a k => difference 4 0 a false k) true .a s s (exec .neg s) ∧
    IntoReg (fun a k => (BitVec.ofNat 8 (255 - a.toNat), { k with h := true, n := true })) true .a s s (exec .cpl s) ∧
    IntoReg decimalAdjust true .a s s (exec .daa s)

/-- 42 R225 with R190 and R192: on packed BCD bytes `a` and `b`, `ADD A,n` then DAA leaves the BCD sum modulo 100 and the
decimal carry in C; `SUB A,n` then DAA leaves the BCD difference and the decimal borrow. -/
def Obligations.DecimalAddition : Prop :=
  ∀ s (b : Byte),
    let a := s.get8 .a
    let value := fun v : Byte => v.toNat / 16 * 10 + v.toNat % 16
    let isBcd := fun v : Byte => v.toNat / 16 ≤ 9 ∧ v.toNat % 16 ≤ 9
    isBcd a → isBcd b →
      (∃ t u, exec (.addAN b) s = .next t ∧ exec .daa t = .next u ∧ isBcd (u.get8 .a) ∧
        value (u.get8 .a) = (value a + value b) % 100 ∧ (flagsOf u).c = decide (100 ≤ value a + value b)) ∧
      ∃ t u, exec (.subAN b) s = .next t ∧ exec .daa t = .next u ∧ isBcd (u.get8 .a) ∧
        value (u.get8 .a) = (value a + 100 - value b) % 100 ∧ (flagsOf u).c = decide (value a < value b)

/-- 42 R226, R227: MUL and DIV in their three forms. -/
def Obligations.MultiplyAndDivide : Prop :=
  ∀ s,
    (∀ n, Multiplies n s s (exec (.mulN n) s) ∧ Divides n s s (exec (.divN n) s)) ∧
    (∀ p, Multiplies (s.get8 p) s s (exec (.mulR p) s) ∧ Divides (s.get8 p) s s (exec (.divR p) s)) ∧
    (∀ m, let v := read8 (addr m s) s
      Multiplies v.1 s v.2 (exec (.mulAt m) s) ∧ Divides v.1 s v.2 (exec (.divAt m) s))

/-! ### Shifts, rotates, bits, carry -/

/-- 43 R240 to R248: the one-byte A forms. -/
def Obligations.RotateAccumulator : Prop :=
  ∀ s,
    IntoReg (rotatedA .rlc) true .a s s (exec .rlca s) ∧ IntoReg (rotatedA .rrc) true .a s s (exec .rrca s) ∧
    IntoReg (rotatedA .rl) true .a s s (exec .rla s) ∧ IntoReg (rotatedA .rr) true .a s s (exec .rra s) ∧
    IntoReg (rotatedA .sla) true .a s s (exec .slaa s) ∧ IntoReg (rotatedA .sra) true .a s s (exec .sraa s) ∧
    IntoReg (rotatedA .sll) true .a s s (exec .slla s) ∧ IntoReg (rotatedA .srl) true .a s s (exec .srla s)

/-- 43 R240 to R248: `ROT r` and `ROT (m)`. -/
def Obligations.RotateOperands : Prop :=
  (∀ s p,
    IntoReg (rotated .rlc) true p s s (exec (.rlcR p) s) ∧ IntoReg (rotated .rrc) true p s s (exec (.rrcR p) s) ∧
    IntoReg (rotated .rl) true p s s (exec (.rlR p) s) ∧ IntoReg (rotated .rr) true p s s (exec (.rrR p) s) ∧
    IntoReg (rotated .sla) true p s s (exec (.slaR p) s) ∧ IntoReg (rotated .sra) true p s s (exec (.sraR p) s) ∧
    IntoReg (rotated .sll) true p s s (exec (.sllR p) s) ∧ IntoReg (rotated .srl) true p s s (exec (.srlR p) s)) ∧
  ∀ s m, s.mem.wf = true →
    IntoByte (rotated .rlc) true m s (exec (.rlcAt m) s) ∧ IntoByte (rotated .rrc) true m s (exec (.rrcAt m) s) ∧
    IntoByte (rotated .rl) true m s (exec (.rlAt m) s) ∧ IntoByte (rotated .rr) true m s (exec (.rrAt m) s) ∧
    IntoByte (rotated .sla) true m s (exec (.slaAt m) s) ∧ IntoByte (rotated .sra) true m s (exec (.sraAt m) s) ∧
    IntoByte (rotated .sll) true m s (exec (.sllAt m) s) ∧ IntoByte (rotated .srl) true m s (exec (.srlAt m) s)

/-- 43 R249, R250: RLD and RRD: the digits of memory and of A, the flags of the new A; C, X, I kept. -/
def Obligations.RotateDigits : Prop :=
  ∀ s m, s.mem.wf = true →
    let p := addr m s
    let v := read8 p s
    let t := v.1.toNat
    let a := (s.get8 .a).toNat
    let after := fun (i : Instr) (byte acc : Nat) =>
      ∃ u, exec i s = .next u ∧ (u.get8 .a).toNat = acc ∧
        flagsOf u =
          { flagsOf s with
            s := decide (128 ≤ acc), z := decide (acc = 0), h := false, v := evenParity (BitVec.ofNat 8 acc), n := false } ∧
        Frame [.a] [] s (write8 p (BitVec.ofNat 8 byte) v.2) u ∧ StoredByte p (BitVec.ofNat 8 byte) s u
    after (.rldAt m) (t % 16 * 16 + a % 16) (a / 16 * 16 + t / 16) ∧
      after (.rrdAt m) (a % 16 * 16 + t / 16) (a / 16 * 16 + t % 16)

/-- 43 R251, R254: BIT and TSET in every form: Z, H, N from the value before, TSET then sets the bit. S and V are open
(log entry 5): nothing is said of them. -/
def Obligations.BitTests : Prop :=
  (∀ s b p,
    (∃ t, exec (.bitR b p) s = .next t ∧ TestsBit (s.get8 p) b s t ∧ Frame [] [] s s t ∧ SameMemory s t) ∧
    ∃ t, exec (.tsetR b p) s = .next t ∧ TestsBit (s.get8 p) b s t ∧ t.get8 p = withBit (s.get8 p) b ∧
      Frame [p] [] s s t ∧ SameMemory s t) ∧
  (∀ s b m, let v := read8 (addr m s) s
    ∃ t, exec (.bitAt b m) s = .next t ∧ TestsBit v.1 b s t ∧ Frame [] [] s v.2 t ∧ SameMemory s t) ∧
  (∀ s b u, let v := read8 (addr (.dp u) s) s
    ∃ t, exec (.bitAtU b u) s = .next t ∧ TestsBit v.1 b s t ∧ Frame [] [] s v.2 t ∧ SameMemory s t) ∧
  ∀ s b m, s.mem.wf = true →
    let a := addr m s
    let v := read8 a s
    ∃ t, exec (.tsetAt b m) s = .next t ∧ TestsBit v.1 b s t ∧ Frame [] [] s (write8 a (withBit v.1 b) v.2) t ∧
      StoredByte a (withBit v.1 b) s t

/-- 43 R252, R253: SET and RES in every form; no flag. -/
def Obligations.SetAndReset : Prop :=
  (∀ s b p, LoadsByte p (withBit (s.get8 p) b) s s (exec (.setR b p) s) ∧
    LoadsByte p (withoutBit (s.get8 p) b) s s (exec (.resR b p) s)) ∧
  ∀ s b, s.mem.wf = true →
    (∀ m, let v := read8 (addr m s) s
      StoresByte (addr m s) (withBit v.1 b) s v.2 (exec (.setAt b m) s) ∧
        StoresByte (addr m s) (withoutBit v.1 b) s v.2 (exec (.resAt b m) s)) ∧
    ∀ u, let v := read8 (addr (.dp u) s) s
      StoresByte (addr (.dp u) s) (withBit v.1 b) s v.2 (exec (.setAtU b u) s) ∧
        StoresByte (addr (.dp u) s) (withoutBit v.1 b) s v.2 (exec (.resAtU b u) s)

/-- 43 R255, R256, R257: RCF, SCF, CCF. -/
def Obligations.CarryFlag : Prop :=
  ∀ s,
    let k := flagsOf s
    let only := fun (i : Instr) (k' : Flags) =>
      ∃ t, exec i s = .next t ∧ flagsOf t = k' ∧ Frame [] [] s s t ∧ SameMemory s t
    only .rcf { k with h := false, x := false, n := false, c := false } ∧
      only .scf { k with h := false, x := true, n := false, c := true } ∧
      only .ccf { k with h := k.c, x := !k.c, n := false, c := !k.c }

/-! ### Control transfer and system instructions -/

/-- 44 R275 to R278, R283, R284: the jumps and the two loop instructions, with the conditions from F. PC is `PC_next`. -/
def Obligations.JumpsAndLoops : Prop :=
  ∀ s,
    (∀ w, Jumps true w s (exec (.jp w) s)) ∧
    (∀ cc m, Jumps (condition cc (flagsOf s)) (ea m s) s (exec (.jpCc cc m) s)) ∧
    (∀ cc (e : Byte), Jumps (condition cc (flagsOf s)) (displaced s.pc e.toInt) s (exec (.jr cc e) s)) ∧
    (∀ st : Word, Jumps true (displaced s.pc (bias s + st.toInt)) s (exec (.jrl st) s)) ∧
    (∀ e : Byte, ∃ t, exec (.djnz e) s = .next t ∧ t.get8 .b = s.get8 .b - 1 ∧ t.f = s.f ∧
      t.pc = (if s.get8 .b = 1 then s.pc else displaced s.pc e.toInt) ∧ FrameButPc [.b] [] s s t ∧ SameMemory s t) ∧
    ∀ e : Byte, ∃ t, exec (.djnzBc e) s = .next t ∧ t.get16 .bc = s.get16 .bc - 1 ∧ t.f = s.f ∧
      t.pc = (if s.get16 .bc = 1 then s.pc else displaced s.pc e.toInt) ∧ FrameButPc [.b, .c] [] s s t ∧ SameMemory s t

/-- 44 R279 to R282: CALL, CALLR, RET, RETI; a call pushes PC only if it is taken. -/
def Obligations.CallsAndReturns : Prop :=
  ∀ s,
    (s.mem.wf = true →
      (∀ w, Calls true w s (exec (.call w) s)) ∧
      (∀ cc m, Calls (condition cc (flagsOf s)) (ea m s) s (exec (.callCc cc m) s)) ∧
      ∀ st : Word, Calls true (displaced s.pc (bias s + st.toInt)) s (exec (.callr st) s)) ∧
    Returns true s (exec .ret s) ∧
    (∀ cc, Returns (condition cc (flagsOf s)) s (exec (.retCc cc) s)) ∧
    let v := read16 (bank0 s.sp) s
    let w := read16 (bank0 (s.sp + 2)) v.2
    ∃ t, exec .reti s = .next t ∧ t.af = v.1 ∧ t.pc = w.1 ∧ t.sp = s.sp + 4 ∧ FrameButPc [.a] [.sp] s w.2 t ∧
      SameMemory s t

/-- 44 R285 to R289: NOP, HALT, DI, EI and SWI; SWI is the acceptance of source 0 with return address `PC_next`, whatever
I, `after_ei` and `mask` hold. -/
def Obligations.SystemInstructions : Prop :=
  ∀ s,
    Nothing s (exec .nop s) ∧
    (∃ t, exec .halt s = .next t ∧ t.f = s.f ∧ Frame [] [] s { s with halted := true } t ∧ SameMemory s t) ∧
    (∃ t, exec .di s = .next t ∧ flagsOf t = { flagsOf s with i := false } ∧
      Frame [] [] s { s with afterEi := false } t ∧ SameMemory s t) ∧
    (∃ t, exec .ei s = .next t ∧ t.f = s.f ∧ Frame [] [] s { s with afterEi := true } t ∧ SameMemory s t) ∧
    ∃ t, exec .swi s = .next t ∧ Accepted 0 s.pc s t

end Statements
end

