-- ==== Sys2Proof/Laws/Decode.lean ====
section
/-! SUPPORT. The register and condition codes: decoding a field gives back what encoding it wrote, and a field decodes to a
register exactly when `RawField.wellFormed` admits its code. -/

namespace Sys2Proof

/-- The `r` code of a register decodes to it. -/
@[simp] theorem Reg8.ofCode_code (r : Reg8) : Reg8.ofCode r.code = some r := by cases r <;> rfl

/-- The `gg` code of a register decodes to it. -/
@[simp] theorem Reg16.ofCode_code (g : Reg16) : Reg16.ofCode g.code = some g := by cases g <;> rfl

/-- The `qq` code of a register decodes to it. -/
@[simp] theorem RegQ.ofCode_code (q : RegQ) : RegQ.ofCode q.code = some q := by cases q <;> rfl

/-- The `ix` code of a register decodes to it. -/
@[simp] theorem RegX.ofCode_code (x : RegX) : RegX.ofCode x.code = some x := by cases x <;> rfl

/-- The code of a condition decodes to it. -/
@[simp] theorem Cond.ofCode_code (cc : Cond) : Cond.ofCode cc.code = cc := by cases cc <;> rfl

/-- A code that decodes to an `r` register is its code. -/
theorem Reg8.code_of_ofCode {k : BitVec 3} {r : Reg8} : Reg8.ofCode k = some r → r.code = k := by
  cases r <;> revert k <;> decide

/-- A code that decodes to a `gg` register is its code. -/
theorem Reg16.code_of_ofCode {k : BitVec 3} {g : Reg16} : Reg16.ofCode k = some g → g.code = k := by
  cases g <;> revert k <;> decide

/-- A code that decodes to a `qq` register is its code. -/
theorem RegQ.code_of_ofCode {k : BitVec 3} {q : RegQ} : RegQ.ofCode k = some q → q.code = k := by
  cases q <;> revert k <;> decide

/-- A code that decodes to an `ix` register is its code. -/
theorem RegX.code_of_ofCode {k : BitVec 2} {x : RegX} : RegX.ofCode k = some x → x.code = k := by
  cases x <;> revert k <;> decide

/-- Every condition code is the code of the condition it decodes to. -/
@[simp] theorem Cond.code_ofCode (k : BitVec 4) : (Cond.ofCode k).code = k := by revert k; decide

/-- The decoder of a field refuses exactly the codes that are not well formed (10 R32, 30 R117). -/
theorem ofCode_isSome_iff_wellFormed :
    (∀ k, (Reg8.ofCode k).isSome = (RawField.r k).wellFormed) ∧ (∀ k, (Reg16.ofCode k).isSome = (RawField.gg k).wellFormed) ∧
      (∀ k, (RegQ.ofCode k).isSome = (RawField.qq k).wellFormed) ∧ ∀ k, (RegX.ofCode k).isSome = (RawField.ix k).wellFormed := by
  decide

end Sys2Proof
end

