-- ==== Sys2Proof/Laws/Flags.lean ====
section
/-! SUPPORT. F as eight named bits: the two views agree, and an update of F is an update of the bits. -/

namespace Sys2Proof

/-- The bits of an F made from bits. -/
@[simp] theorem Flags.ofByte_toByte (k : Flags) : Flags.ofByte k.toByte = k := by
  obtain ⟨s, z, i, h, x, v, n, c⟩ := k
  revert s z i h x v n c
  decide

/-- F made from its own bits. -/
@[simp] theorem Flags.toByte_ofByte (f : Byte) : (Flags.ofByte f).toByte = f := by
  revert f
  decide

/-- The bits of F after an update by name. -/
@[simp] theorem ofByte_updateFlags (f : Byte) (g : Flags → Flags) :
    Flags.ofByte (updateFlags f g) = g (Flags.ofByte f) := by
  simp [updateFlags]

/-- `cond(cc + 8)` is the complement of `cond(cc)` (R275). -/
theorem Flags.cond_complement (k : Flags) :
    (k.cond .t = !k.cond .f) ∧ (k.cond .ge = !k.cond .lt) ∧ (k.cond .gt = !k.cond .le) ∧ (k.cond .ugt = !k.cond .ule) ∧
      (k.cond .nov = !k.cond .ov) ∧ (k.cond .pl = !k.cond .mi) ∧ (k.cond .nz = !k.cond .z) ∧ (k.cond .nc = !k.cond .c) := by
  obtain ⟨s, z, i, h, x, v, n, c⟩ := k
  revert s z c v
  simp [Flags.cond]

end Sys2Proof
end

