-- ==== Sys2Proof/Laws/State.lean ====
section
/-! SUPPORT. One lemma per field of the state and update of it, all by `rfl`, then what the register accessors read after
each update. -/

namespace Sys2Proof.Machine

/-! ### Fields after an update -/

@[simp] theorem State.setGen_gbank0 (s : State) (g : GenBank) : (s.setGen g).gbank0 = (if s.gsel then s.gbank0 else g) := rfl
@[simp] theorem State.setGen_gbank1 (s : State) (g : GenBank) : (s.setGen g).gbank1 = (if s.gsel then g else s.gbank1) := rfl
@[simp] theorem State.setGen_gsel (s : State) (g : GenBank) : (s.setGen g).gsel = s.gsel := rfl
@[simp] theorem State.setGen_afbank0 (s : State) (g : GenBank) : (s.setGen g).afbank0 = s.afbank0 := rfl
@[simp] theorem State.setGen_afbank1 (s : State) (g : GenBank) : (s.setGen g).afbank1 = s.afbank1 := rfl
@[simp] theorem State.setGen_asel (s : State) (g : GenBank) : (s.setGen g).asel = s.asel := rfl
@[simp] theorem State.setGen_ix (s : State) (g : GenBank) : (s.setGen g).ix = s.ix := rfl
@[simp] theorem State.setGen_iy (s : State) (g : GenBank) : (s.setGen g).iy = s.iy := rfl
@[simp] theorem State.setGen_sp (s : State) (g : GenBank) : (s.setGen g).sp = s.sp := rfl
@[simp] theorem State.setGen_pc (s : State) (g : GenBank) : (s.setGen g).pc = s.pc := rfl
@[simp] theorem State.setGen_halted (s : State) (g : GenBank) : (s.setGen g).halted = s.halted := rfl
@[simp] theorem State.setGen_afterEi (s : State) (g : GenBank) : (s.setGen g).afterEi = s.afterEi := rfl
@[simp] theorem State.setGen_residual (s : State) (g : GenBank) : (s.setGen g).residual = s.residual := rfl
@[simp] theorem State.setGen_pending (s : State) (g : GenBank) : (s.setGen g).pending = s.pending := rfl
@[simp] theorem State.setGen_mask (s : State) (g : GenBank) : (s.setGen g).mask = s.mask := rfl
@[simp] theorem State.setGen_line (s : State) (g : GenBank) : (s.setGen g).line = s.line := rfl
@[simp] theorem State.setGen_t0 (s : State) (g : GenBank) : (s.setGen g).t0 = s.t0 := rfl
@[simp] theorem State.setGen_t1 (s : State) (g : GenBank) : (s.setGen g).t1 = s.t1 := rfl
@[simp] theorem State.setGen_t2 (s : State) (g : GenBank) : (s.setGen g).t2 = s.t2 := rfl
@[simp] theorem State.setGen_t3 (s : State) (g : GenBank) : (s.setGen g).t3 = s.t3 := rfl
@[simp] theorem State.setGen_t4 (s : State) (g : GenBank) : (s.setGen g).t4 = s.t4 := rfl
@[simp] theorem State.setGen_bankX (s : State) (g : GenBank) : (s.setGen g).bankX = s.bankX := rfl
@[simp] theorem State.setGen_bankY (s : State) (g : GenBank) : (s.setGen g).bankY = s.bankY := rfl
@[simp] theorem State.setGen_mem (s : State) (g : GenBank) : (s.setGen g).mem = s.mem := rfl
@[simp] theorem State.setGen_busAnswers (s : State) (g : GenBank) : (s.setGen g).busAnswers = s.busAnswers := rfl
@[simp] theorem State.setGen_ports (s : State) (g : GenBank) : (s.setGen g).ports = s.ports := rfl
@[simp] theorem State.setGen_callLog (s : State) (g : GenBank) : (s.setGen g).callLog = s.callLog := rfl
@[simp] theorem State.setGen_cost (s : State) (g : GenBank) : (s.setGen g).cost = s.cost := rfl
@[simp] theorem State.setGen_freeCount (s : State) (g : GenBank) : (s.setGen g).freeCount = s.freeCount := rfl
@[simp] theorem State.setGen_cfg (s : State) (g : GenBank) : (s.setGen g).cfg = s.cfg := rfl

@[simp] theorem State.setAf_gbank0 (s : State) (w : Word) : (s.setAf w).gbank0 = s.gbank0 := rfl
@[simp] theorem State.setAf_gbank1 (s : State) (w : Word) : (s.setAf w).gbank1 = s.gbank1 := rfl
@[simp] theorem State.setAf_gsel (s : State) (w : Word) : (s.setAf w).gsel = s.gsel := rfl
@[simp] theorem State.setAf_afbank0 (s : State) (w : Word) : (s.setAf w).afbank0 = (if s.asel then s.afbank0 else w) := rfl
@[simp] theorem State.setAf_afbank1 (s : State) (w : Word) : (s.setAf w).afbank1 = (if s.asel then w else s.afbank1) := rfl
@[simp] theorem State.setAf_asel (s : State) (w : Word) : (s.setAf w).asel = s.asel := rfl
@[simp] theorem State.setAf_ix (s : State) (w : Word) : (s.setAf w).ix = s.ix := rfl
@[simp] theorem State.setAf_iy (s : State) (w : Word) : (s.setAf w).iy = s.iy := rfl
@[simp] theorem State.setAf_sp (s : State) (w : Word) : (s.setAf w).sp = s.sp := rfl
@[simp] theorem State.setAf_pc (s : State) (w : Word) : (s.setAf w).pc = s.pc := rfl
@[simp] theorem State.setAf_halted (s : State) (w : Word) : (s.setAf w).halted = s.halted := rfl
@[simp] theorem State.setAf_afterEi (s : State) (w : Word) : (s.setAf w).afterEi = s.afterEi := rfl
@[simp] theorem State.setAf_residual (s : State) (w : Word) : (s.setAf w).residual = s.residual := rfl
@[simp] theorem State.setAf_pending (s : State) (w : Word) : (s.setAf w).pending = s.pending := rfl
@[simp] theorem State.setAf_mask (s : State) (w : Word) : (s.setAf w).mask = s.mask := rfl
@[simp] theorem State.setAf_line (s : State) (w : Word) : (s.setAf w).line = s.line := rfl
@[simp] theorem State.setAf_t0 (s : State) (w : Word) : (s.setAf w).t0 = s.t0 := rfl
@[simp] theorem State.setAf_t1 (s : State) (w : Word) : (s.setAf w).t1 = s.t1 := rfl
@[simp] theorem State.setAf_t2 (s : State) (w : Word) : (s.setAf w).t2 = s.t2 := rfl
@[simp] theorem State.setAf_t3 (s : State) (w : Word) : (s.setAf w).t3 = s.t3 := rfl
@[simp] theorem State.setAf_t4 (s : State) (w : Word) : (s.setAf w).t4 = s.t4 := rfl
@[simp] theorem State.setAf_bankX (s : State) (w : Word) : (s.setAf w).bankX = s.bankX := rfl
@[simp] theorem State.setAf_bankY (s : State) (w : Word) : (s.setAf w).bankY = s.bankY := rfl
@[simp] theorem State.setAf_mem (s : State) (w : Word) : (s.setAf w).mem = s.mem := rfl
@[simp] theorem State.setAf_busAnswers (s : State) (w : Word) : (s.setAf w).busAnswers = s.busAnswers := rfl
@[simp] theorem State.setAf_ports (s : State) (w : Word) : (s.setAf w).ports = s.ports := rfl
@[simp] theorem State.setAf_callLog (s : State) (w : Word) : (s.setAf w).callLog = s.callLog := rfl
@[simp] theorem State.setAf_cost (s : State) (w : Word) : (s.setAf w).cost = s.cost := rfl
@[simp] theorem State.setAf_freeCount (s : State) (w : Word) : (s.setAf w).freeCount = s.freeCount := rfl
@[simp] theorem State.setAf_cfg (s : State) (w : Word) : (s.setAf w).cfg = s.cfg := rfl

@[simp] theorem State.swapGen_gbank0 (s : State) : (s.swapGen).gbank0 = s.gbank0 := rfl
@[simp] theorem State.swapGen_gbank1 (s : State) : (s.swapGen).gbank1 = s.gbank1 := rfl
@[simp] theorem State.swapGen_gsel (s : State) : (s.swapGen).gsel = (!s.gsel) := rfl
@[simp] theorem State.swapGen_afbank0 (s : State) : (s.swapGen).afbank0 = s.afbank0 := rfl
@[simp] theorem State.swapGen_afbank1 (s : State) : (s.swapGen).afbank1 = s.afbank1 := rfl
@[simp] theorem State.swapGen_asel (s : State) : (s.swapGen).asel = s.asel := rfl
@[simp] theorem State.swapGen_ix (s : State) : (s.swapGen).ix = s.ix := rfl
@[simp] theorem State.swapGen_iy (s : State) : (s.swapGen).iy = s.iy := rfl
@[simp] theorem State.swapGen_sp (s : State) : (s.swapGen).sp = s.sp := rfl
@[simp] theorem State.swapGen_pc (s : State) : (s.swapGen).pc = s.pc := rfl
@[simp] theorem State.swapGen_halted (s : State) : (s.swapGen).halted = s.halted := rfl
@[simp] theorem State.swapGen_afterEi (s : State) : (s.swapGen).afterEi = s.afterEi := rfl
@[simp] theorem State.swapGen_residual (s : State) : (s.swapGen).residual = s.residual := rfl
@[simp] theorem State.swapGen_pending (s : State) : (s.swapGen).pending = s.pending := rfl
@[simp] theorem State.swapGen_mask (s : State) : (s.swapGen).mask = s.mask := rfl
@[simp] theorem State.swapGen_line (s : State) : (s.swapGen).line = s.line := rfl
@[simp] theorem State.swapGen_t0 (s : State) : (s.swapGen).t0 = s.t0 := rfl
@[simp] theorem State.swapGen_t1 (s : State) : (s.swapGen).t1 = s.t1 := rfl
@[simp] theorem State.swapGen_t2 (s : State) : (s.swapGen).t2 = s.t2 := rfl
@[simp] theorem State.swapGen_t3 (s : State) : (s.swapGen).t3 = s.t3 := rfl
@[simp] theorem State.swapGen_t4 (s : State) : (s.swapGen).t4 = s.t4 := rfl
@[simp] theorem State.swapGen_bankX (s : State) : (s.swapGen).bankX = s.bankX := rfl
@[simp] theorem State.swapGen_bankY (s : State) : (s.swapGen).bankY = s.bankY := rfl
@[simp] theorem State.swapGen_mem (s : State) : (s.swapGen).mem = s.mem := rfl
@[simp] theorem State.swapGen_busAnswers (s : State) : (s.swapGen).busAnswers = s.busAnswers := rfl
@[simp] theorem State.swapGen_ports (s : State) : (s.swapGen).ports = s.ports := rfl
@[simp] theorem State.swapGen_callLog (s : State) : (s.swapGen).callLog = s.callLog := rfl
@[simp] theorem State.swapGen_cost (s : State) : (s.swapGen).cost = s.cost := rfl
@[simp] theorem State.swapGen_freeCount (s : State) : (s.swapGen).freeCount = s.freeCount := rfl
@[simp] theorem State.swapGen_cfg (s : State) : (s.swapGen).cfg = s.cfg := rfl

@[simp] theorem State.swapAf_gbank0 (s : State) : (s.swapAf).gbank0 = s.gbank0 := rfl
@[simp] theorem State.swapAf_gbank1 (s : State) : (s.swapAf).gbank1 = s.gbank1 := rfl
@[simp] theorem State.swapAf_gsel (s : State) : (s.swapAf).gsel = s.gsel := rfl
@[simp] theorem State.swapAf_afbank0 (s : State) : (s.swapAf).afbank0 = s.afbank0 := rfl
@[simp] theorem State.swapAf_afbank1 (s : State) : (s.swapAf).afbank1 = s.afbank1 := rfl
@[simp] theorem State.swapAf_asel (s : State) : (s.swapAf).asel = (!s.asel) := rfl
@[simp] theorem State.swapAf_ix (s : State) : (s.swapAf).ix = s.ix := rfl
@[simp] theorem State.swapAf_iy (s : State) : (s.swapAf).iy = s.iy := rfl
@[simp] theorem State.swapAf_sp (s : State) : (s.swapAf).sp = s.sp := rfl
@[simp] theorem State.swapAf_pc (s : State) : (s.swapAf).pc = s.pc := rfl
@[simp] theorem State.swapAf_halted (s : State) : (s.swapAf).halted = s.halted := rfl
@[simp] theorem State.swapAf_afterEi (s : State) : (s.swapAf).afterEi = s.afterEi := rfl
@[simp] theorem State.swapAf_residual (s : State) : (s.swapAf).residual = s.residual := rfl
@[simp] theorem State.swapAf_pending (s : State) : (s.swapAf).pending = s.pending := rfl
@[simp] theorem State.swapAf_mask (s : State) : (s.swapAf).mask = s.mask := rfl
@[simp] theorem State.swapAf_line (s : State) : (s.swapAf).line = s.line := rfl
@[simp] theorem State.swapAf_t0 (s : State) : (s.swapAf).t0 = s.t0 := rfl
@[simp] theorem State.swapAf_t1 (s : State) : (s.swapAf).t1 = s.t1 := rfl
@[simp] theorem State.swapAf_t2 (s : State) : (s.swapAf).t2 = s.t2 := rfl
@[simp] theorem State.swapAf_t3 (s : State) : (s.swapAf).t3 = s.t3 := rfl
@[simp] theorem State.swapAf_t4 (s : State) : (s.swapAf).t4 = s.t4 := rfl
@[simp] theorem State.swapAf_bankX (s : State) : (s.swapAf).bankX = s.bankX := rfl
@[simp] theorem State.swapAf_bankY (s : State) : (s.swapAf).bankY = s.bankY := rfl
@[simp] theorem State.swapAf_mem (s : State) : (s.swapAf).mem = s.mem := rfl
@[simp] theorem State.swapAf_busAnswers (s : State) : (s.swapAf).busAnswers = s.busAnswers := rfl
@[simp] theorem State.swapAf_ports (s : State) : (s.swapAf).ports = s.ports := rfl
@[simp] theorem State.swapAf_callLog (s : State) : (s.swapAf).callLog = s.callLog := rfl
@[simp] theorem State.swapAf_cost (s : State) : (s.swapAf).cost = s.cost := rfl
@[simp] theorem State.swapAf_freeCount (s : State) : (s.swapAf).freeCount = s.freeCount := rfl
@[simp] theorem State.swapAf_cfg (s : State) : (s.swapAf).cfg = s.cfg := rfl

@[simp] theorem State.setIx_gbank0 (s : State) (v : Word) : (s.setIx v).gbank0 = s.gbank0 := rfl
@[simp] theorem State.setIx_gbank1 (s : State) (v : Word) : (s.setIx v).gbank1 = s.gbank1 := rfl
@[simp] theorem State.setIx_gsel (s : State) (v : Word) : (s.setIx v).gsel = s.gsel := rfl
@[simp] theorem State.setIx_afbank0 (s : State) (v : Word) : (s.setIx v).afbank0 = s.afbank0 := rfl
@[simp] theorem State.setIx_afbank1 (s : State) (v : Word) : (s.setIx v).afbank1 = s.afbank1 := rfl
@[simp] theorem State.setIx_asel (s : State) (v : Word) : (s.setIx v).asel = s.asel := rfl
@[simp] theorem State.setIx_ix (s : State) (v : Word) : (s.setIx v).ix = v := rfl
@[simp] theorem State.setIx_iy (s : State) (v : Word) : (s.setIx v).iy = s.iy := rfl
@[simp] theorem State.setIx_sp (s : State) (v : Word) : (s.setIx v).sp = s.sp := rfl
@[simp] theorem State.setIx_pc (s : State) (v : Word) : (s.setIx v).pc = s.pc := rfl
@[simp] theorem State.setIx_halted (s : State) (v : Word) : (s.setIx v).halted = s.halted := rfl
@[simp] theorem State.setIx_afterEi (s : State) (v : Word) : (s.setIx v).afterEi = s.afterEi := rfl
@[simp] theorem State.setIx_residual (s : State) (v : Word) : (s.setIx v).residual = s.residual := rfl
@[simp] theorem State.setIx_pending (s : State) (v : Word) : (s.setIx v).pending = s.pending := rfl
@[simp] theorem State.setIx_mask (s : State) (v : Word) : (s.setIx v).mask = s.mask := rfl
@[simp] theorem State.setIx_line (s : State) (v : Word) : (s.setIx v).line = s.line := rfl
@[simp] theorem State.setIx_t0 (s : State) (v : Word) : (s.setIx v).t0 = s.t0 := rfl
@[simp] theorem State.setIx_t1 (s : State) (v : Word) : (s.setIx v).t1 = s.t1 := rfl
@[simp] theorem State.setIx_t2 (s : State) (v : Word) : (s.setIx v).t2 = s.t2 := rfl
@[simp] theorem State.setIx_t3 (s : State) (v : Word) : (s.setIx v).t3 = s.t3 := rfl
@[simp] theorem State.setIx_t4 (s : State) (v : Word) : (s.setIx v).t4 = s.t4 := rfl
@[simp] theorem State.setIx_bankX (s : State) (v : Word) : (s.setIx v).bankX = s.bankX := rfl
@[simp] theorem State.setIx_bankY (s : State) (v : Word) : (s.setIx v).bankY = s.bankY := rfl
@[simp] theorem State.setIx_mem (s : State) (v : Word) : (s.setIx v).mem = s.mem := rfl
@[simp] theorem State.setIx_busAnswers (s : State) (v : Word) : (s.setIx v).busAnswers = s.busAnswers := rfl
@[simp] theorem State.setIx_ports (s : State) (v : Word) : (s.setIx v).ports = s.ports := rfl
@[simp] theorem State.setIx_callLog (s : State) (v : Word) : (s.setIx v).callLog = s.callLog := rfl
@[simp] theorem State.setIx_cost (s : State) (v : Word) : (s.setIx v).cost = s.cost := rfl
@[simp] theorem State.setIx_freeCount (s : State) (v : Word) : (s.setIx v).freeCount = s.freeCount := rfl
@[simp] theorem State.setIx_cfg (s : State) (v : Word) : (s.setIx v).cfg = s.cfg := rfl

@[simp] theorem State.setIy_gbank0 (s : State) (v : Word) : (s.setIy v).gbank0 = s.gbank0 := rfl
@[simp] theorem State.setIy_gbank1 (s : State) (v : Word) : (s.setIy v).gbank1 = s.gbank1 := rfl
@[simp] theorem State.setIy_gsel (s : State) (v : Word) : (s.setIy v).gsel = s.gsel := rfl
@[simp] theorem State.setIy_afbank0 (s : State) (v : Word) : (s.setIy v).afbank0 = s.afbank0 := rfl
@[simp] theorem State.setIy_afbank1 (s : State) (v : Word) : (s.setIy v).afbank1 = s.afbank1 := rfl
@[simp] theorem State.setIy_asel (s : State) (v : Word) : (s.setIy v).asel = s.asel := rfl
@[simp] theorem State.setIy_ix (s : State) (v : Word) : (s.setIy v).ix = s.ix := rfl
@[simp] theorem State.setIy_iy (s : State) (v : Word) : (s.setIy v).iy = v := rfl
@[simp] theorem State.setIy_sp (s : State) (v : Word) : (s.setIy v).sp = s.sp := rfl
@[simp] theorem State.setIy_pc (s : State) (v : Word) : (s.setIy v).pc = s.pc := rfl
@[simp] theorem State.setIy_halted (s : State) (v : Word) : (s.setIy v).halted = s.halted := rfl
@[simp] theorem State.setIy_afterEi (s : State) (v : Word) : (s.setIy v).afterEi = s.afterEi := rfl
@[simp] theorem State.setIy_residual (s : State) (v : Word) : (s.setIy v).residual = s.residual := rfl
@[simp] theorem State.setIy_pending (s : State) (v : Word) : (s.setIy v).pending = s.pending := rfl
@[simp] theorem State.setIy_mask (s : State) (v : Word) : (s.setIy v).mask = s.mask := rfl
@[simp] theorem State.setIy_line (s : State) (v : Word) : (s.setIy v).line = s.line := rfl
@[simp] theorem State.setIy_t0 (s : State) (v : Word) : (s.setIy v).t0 = s.t0 := rfl
@[simp] theorem State.setIy_t1 (s : State) (v : Word) : (s.setIy v).t1 = s.t1 := rfl
@[simp] theorem State.setIy_t2 (s : State) (v : Word) : (s.setIy v).t2 = s.t2 := rfl
@[simp] theorem State.setIy_t3 (s : State) (v : Word) : (s.setIy v).t3 = s.t3 := rfl
@[simp] theorem State.setIy_t4 (s : State) (v : Word) : (s.setIy v).t4 = s.t4 := rfl
@[simp] theorem State.setIy_bankX (s : State) (v : Word) : (s.setIy v).bankX = s.bankX := rfl
@[simp] theorem State.setIy_bankY (s : State) (v : Word) : (s.setIy v).bankY = s.bankY := rfl
@[simp] theorem State.setIy_mem (s : State) (v : Word) : (s.setIy v).mem = s.mem := rfl
@[simp] theorem State.setIy_busAnswers (s : State) (v : Word) : (s.setIy v).busAnswers = s.busAnswers := rfl
@[simp] theorem State.setIy_ports (s : State) (v : Word) : (s.setIy v).ports = s.ports := rfl
@[simp] theorem State.setIy_callLog (s : State) (v : Word) : (s.setIy v).callLog = s.callLog := rfl
@[simp] theorem State.setIy_cost (s : State) (v : Word) : (s.setIy v).cost = s.cost := rfl
@[simp] theorem State.setIy_freeCount (s : State) (v : Word) : (s.setIy v).freeCount = s.freeCount := rfl
@[simp] theorem State.setIy_cfg (s : State) (v : Word) : (s.setIy v).cfg = s.cfg := rfl

@[simp] theorem State.setSp_gbank0 (s : State) (v : Word) : (s.setSp v).gbank0 = s.gbank0 := rfl
@[simp] theorem State.setSp_gbank1 (s : State) (v : Word) : (s.setSp v).gbank1 = s.gbank1 := rfl
@[simp] theorem State.setSp_gsel (s : State) (v : Word) : (s.setSp v).gsel = s.gsel := rfl
@[simp] theorem State.setSp_afbank0 (s : State) (v : Word) : (s.setSp v).afbank0 = s.afbank0 := rfl
@[simp] theorem State.setSp_afbank1 (s : State) (v : Word) : (s.setSp v).afbank1 = s.afbank1 := rfl
@[simp] theorem State.setSp_asel (s : State) (v : Word) : (s.setSp v).asel = s.asel := rfl
@[simp] theorem State.setSp_ix (s : State) (v : Word) : (s.setSp v).ix = s.ix := rfl
@[simp] theorem State.setSp_iy (s : State) (v : Word) : (s.setSp v).iy = s.iy := rfl
@[simp] theorem State.setSp_sp (s : State) (v : Word) : (s.setSp v).sp = v := rfl
@[simp] theorem State.setSp_pc (s : State) (v : Word) : (s.setSp v).pc = s.pc := rfl
@[simp] theorem State.setSp_halted (s : State) (v : Word) : (s.setSp v).halted = s.halted := rfl
@[simp] theorem State.setSp_afterEi (s : State) (v : Word) : (s.setSp v).afterEi = s.afterEi := rfl
@[simp] theorem State.setSp_residual (s : State) (v : Word) : (s.setSp v).residual = s.residual := rfl
@[simp] theorem State.setSp_pending (s : State) (v : Word) : (s.setSp v).pending = s.pending := rfl
@[simp] theorem State.setSp_mask (s : State) (v : Word) : (s.setSp v).mask = s.mask := rfl
@[simp] theorem State.setSp_line (s : State) (v : Word) : (s.setSp v).line = s.line := rfl
@[simp] theorem State.setSp_t0 (s : State) (v : Word) : (s.setSp v).t0 = s.t0 := rfl
@[simp] theorem State.setSp_t1 (s : State) (v : Word) : (s.setSp v).t1 = s.t1 := rfl
@[simp] theorem State.setSp_t2 (s : State) (v : Word) : (s.setSp v).t2 = s.t2 := rfl
@[simp] theorem State.setSp_t3 (s : State) (v : Word) : (s.setSp v).t3 = s.t3 := rfl
@[simp] theorem State.setSp_t4 (s : State) (v : Word) : (s.setSp v).t4 = s.t4 := rfl
@[simp] theorem State.setSp_bankX (s : State) (v : Word) : (s.setSp v).bankX = s.bankX := rfl
@[simp] theorem State.setSp_bankY (s : State) (v : Word) : (s.setSp v).bankY = s.bankY := rfl
@[simp] theorem State.setSp_mem (s : State) (v : Word) : (s.setSp v).mem = s.mem := rfl
@[simp] theorem State.setSp_busAnswers (s : State) (v : Word) : (s.setSp v).busAnswers = s.busAnswers := rfl
@[simp] theorem State.setSp_ports (s : State) (v : Word) : (s.setSp v).ports = s.ports := rfl
@[simp] theorem State.setSp_callLog (s : State) (v : Word) : (s.setSp v).callLog = s.callLog := rfl
@[simp] theorem State.setSp_cost (s : State) (v : Word) : (s.setSp v).cost = s.cost := rfl
@[simp] theorem State.setSp_freeCount (s : State) (v : Word) : (s.setSp v).freeCount = s.freeCount := rfl
@[simp] theorem State.setSp_cfg (s : State) (v : Word) : (s.setSp v).cfg = s.cfg := rfl

@[simp] theorem State.setPc_gbank0 (s : State) (v : Word) : (s.setPc v).gbank0 = s.gbank0 := rfl
@[simp] theorem State.setPc_gbank1 (s : State) (v : Word) : (s.setPc v).gbank1 = s.gbank1 := rfl
@[simp] theorem State.setPc_gsel (s : State) (v : Word) : (s.setPc v).gsel = s.gsel := rfl
@[simp] theorem State.setPc_afbank0 (s : State) (v : Word) : (s.setPc v).afbank0 = s.afbank0 := rfl
@[simp] theorem State.setPc_afbank1 (s : State) (v : Word) : (s.setPc v).afbank1 = s.afbank1 := rfl
@[simp] theorem State.setPc_asel (s : State) (v : Word) : (s.setPc v).asel = s.asel := rfl
@[simp] theorem State.setPc_ix (s : State) (v : Word) : (s.setPc v).ix = s.ix := rfl
@[simp] theorem State.setPc_iy (s : State) (v : Word) : (s.setPc v).iy = s.iy := rfl
@[simp] theorem State.setPc_sp (s : State) (v : Word) : (s.setPc v).sp = s.sp := rfl
@[simp] theorem State.setPc_pc (s : State) (v : Word) : (s.setPc v).pc = v := rfl
@[simp] theorem State.setPc_halted (s : State) (v : Word) : (s.setPc v).halted = s.halted := rfl
@[simp] theorem State.setPc_afterEi (s : State) (v : Word) : (s.setPc v).afterEi = s.afterEi := rfl
@[simp] theorem State.setPc_residual (s : State) (v : Word) : (s.setPc v).residual = s.residual := rfl
@[simp] theorem State.setPc_pending (s : State) (v : Word) : (s.setPc v).pending = s.pending := rfl
@[simp] theorem State.setPc_mask (s : State) (v : Word) : (s.setPc v).mask = s.mask := rfl
@[simp] theorem State.setPc_line (s : State) (v : Word) : (s.setPc v).line = s.line := rfl
@[simp] theorem State.setPc_t0 (s : State) (v : Word) : (s.setPc v).t0 = s.t0 := rfl
@[simp] theorem State.setPc_t1 (s : State) (v : Word) : (s.setPc v).t1 = s.t1 := rfl
@[simp] theorem State.setPc_t2 (s : State) (v : Word) : (s.setPc v).t2 = s.t2 := rfl
@[simp] theorem State.setPc_t3 (s : State) (v : Word) : (s.setPc v).t3 = s.t3 := rfl
@[simp] theorem State.setPc_t4 (s : State) (v : Word) : (s.setPc v).t4 = s.t4 := rfl
@[simp] theorem State.setPc_bankX (s : State) (v : Word) : (s.setPc v).bankX = s.bankX := rfl
@[simp] theorem State.setPc_bankY (s : State) (v : Word) : (s.setPc v).bankY = s.bankY := rfl
@[simp] theorem State.setPc_mem (s : State) (v : Word) : (s.setPc v).mem = s.mem := rfl
@[simp] theorem State.setPc_busAnswers (s : State) (v : Word) : (s.setPc v).busAnswers = s.busAnswers := rfl
@[simp] theorem State.setPc_ports (s : State) (v : Word) : (s.setPc v).ports = s.ports := rfl
@[simp] theorem State.setPc_callLog (s : State) (v : Word) : (s.setPc v).callLog = s.callLog := rfl
@[simp] theorem State.setPc_cost (s : State) (v : Word) : (s.setPc v).cost = s.cost := rfl
@[simp] theorem State.setPc_freeCount (s : State) (v : Word) : (s.setPc v).freeCount = s.freeCount := rfl
@[simp] theorem State.setPc_cfg (s : State) (v : Word) : (s.setPc v).cfg = s.cfg := rfl

@[simp] theorem State.setHalted_gbank0 (s : State) (v : Bool) : (s.setHalted v).gbank0 = s.gbank0 := rfl
@[simp] theorem State.setHalted_gbank1 (s : State) (v : Bool) : (s.setHalted v).gbank1 = s.gbank1 := rfl
@[simp] theorem State.setHalted_gsel (s : State) (v : Bool) : (s.setHalted v).gsel = s.gsel := rfl
@[simp] theorem State.setHalted_afbank0 (s : State) (v : Bool) : (s.setHalted v).afbank0 = s.afbank0 := rfl
@[simp] theorem State.setHalted_afbank1 (s : State) (v : Bool) : (s.setHalted v).afbank1 = s.afbank1 := rfl
@[simp] theorem State.setHalted_asel (s : State) (v : Bool) : (s.setHalted v).asel = s.asel := rfl
@[simp] theorem State.setHalted_ix (s : State) (v : Bool) : (s.setHalted v).ix = s.ix := rfl
@[simp] theorem State.setHalted_iy (s : State) (v : Bool) : (s.setHalted v).iy = s.iy := rfl
@[simp] theorem State.setHalted_sp (s : State) (v : Bool) : (s.setHalted v).sp = s.sp := rfl
@[simp] theorem State.setHalted_pc (s : State) (v : Bool) : (s.setHalted v).pc = s.pc := rfl
@[simp] theorem State.setHalted_halted (s : State) (v : Bool) : (s.setHalted v).halted = v := rfl
@[simp] theorem State.setHalted_afterEi (s : State) (v : Bool) : (s.setHalted v).afterEi = s.afterEi := rfl
@[simp] theorem State.setHalted_residual (s : State) (v : Bool) : (s.setHalted v).residual = s.residual := rfl
@[simp] theorem State.setHalted_pending (s : State) (v : Bool) : (s.setHalted v).pending = s.pending := rfl
@[simp] theorem State.setHalted_mask (s : State) (v : Bool) : (s.setHalted v).mask = s.mask := rfl
@[simp] theorem State.setHalted_line (s : State) (v : Bool) : (s.setHalted v).line = s.line := rfl
@[simp] theorem State.setHalted_t0 (s : State) (v : Bool) : (s.setHalted v).t0 = s.t0 := rfl
@[simp] theorem State.setHalted_t1 (s : State) (v : Bool) : (s.setHalted v).t1 = s.t1 := rfl
@[simp] theorem State.setHalted_t2 (s : State) (v : Bool) : (s.setHalted v).t2 = s.t2 := rfl
@[simp] theorem State.setHalted_t3 (s : State) (v : Bool) : (s.setHalted v).t3 = s.t3 := rfl
@[simp] theorem State.setHalted_t4 (s : State) (v : Bool) : (s.setHalted v).t4 = s.t4 := rfl
@[simp] theorem State.setHalted_bankX (s : State) (v : Bool) : (s.setHalted v).bankX = s.bankX := rfl
@[simp] theorem State.setHalted_bankY (s : State) (v : Bool) : (s.setHalted v).bankY = s.bankY := rfl
@[simp] theorem State.setHalted_mem (s : State) (v : Bool) : (s.setHalted v).mem = s.mem := rfl
@[simp] theorem State.setHalted_busAnswers (s : State) (v : Bool) : (s.setHalted v).busAnswers = s.busAnswers := rfl
@[simp] theorem State.setHalted_ports (s : State) (v : Bool) : (s.setHalted v).ports = s.ports := rfl
@[simp] theorem State.setHalted_callLog (s : State) (v : Bool) : (s.setHalted v).callLog = s.callLog := rfl
@[simp] theorem State.setHalted_cost (s : State) (v : Bool) : (s.setHalted v).cost = s.cost := rfl
@[simp] theorem State.setHalted_freeCount (s : State) (v : Bool) : (s.setHalted v).freeCount = s.freeCount := rfl
@[simp] theorem State.setHalted_cfg (s : State) (v : Bool) : (s.setHalted v).cfg = s.cfg := rfl

@[simp] theorem State.setAfterEi_gbank0 (s : State) (v : Bool) : (s.setAfterEi v).gbank0 = s.gbank0 := rfl
@[simp] theorem State.setAfterEi_gbank1 (s : State) (v : Bool) : (s.setAfterEi v).gbank1 = s.gbank1 := rfl
@[simp] theorem State.setAfterEi_gsel (s : State) (v : Bool) : (s.setAfterEi v).gsel = s.gsel := rfl
@[simp] theorem State.setAfterEi_afbank0 (s : State) (v : Bool) : (s.setAfterEi v).afbank0 = s.afbank0 := rfl
@[simp] theorem State.setAfterEi_afbank1 (s : State) (v : Bool) : (s.setAfterEi v).afbank1 = s.afbank1 := rfl
@[simp] theorem State.setAfterEi_asel (s : State) (v : Bool) : (s.setAfterEi v).asel = s.asel := rfl
@[simp] theorem State.setAfterEi_ix (s : State) (v : Bool) : (s.setAfterEi v).ix = s.ix := rfl
@[simp] theorem State.setAfterEi_iy (s : State) (v : Bool) : (s.setAfterEi v).iy = s.iy := rfl
@[simp] theorem State.setAfterEi_sp (s : State) (v : Bool) : (s.setAfterEi v).sp = s.sp := rfl
@[simp] theorem State.setAfterEi_pc (s : State) (v : Bool) : (s.setAfterEi v).pc = s.pc := rfl
@[simp] theorem State.setAfterEi_halted (s : State) (v : Bool) : (s.setAfterEi v).halted = s.halted := rfl
@[simp] theorem State.setAfterEi_afterEi (s : State) (v : Bool) : (s.setAfterEi v).afterEi = v := rfl
@[simp] theorem State.setAfterEi_residual (s : State) (v : Bool) : (s.setAfterEi v).residual = s.residual := rfl
@[simp] theorem State.setAfterEi_pending (s : State) (v : Bool) : (s.setAfterEi v).pending = s.pending := rfl
@[simp] theorem State.setAfterEi_mask (s : State) (v : Bool) : (s.setAfterEi v).mask = s.mask := rfl
@[simp] theorem State.setAfterEi_line (s : State) (v : Bool) : (s.setAfterEi v).line = s.line := rfl
@[simp] theorem State.setAfterEi_t0 (s : State) (v : Bool) : (s.setAfterEi v).t0 = s.t0 := rfl
@[simp] theorem State.setAfterEi_t1 (s : State) (v : Bool) : (s.setAfterEi v).t1 = s.t1 := rfl
@[simp] theorem State.setAfterEi_t2 (s : State) (v : Bool) : (s.setAfterEi v).t2 = s.t2 := rfl
@[simp] theorem State.setAfterEi_t3 (s : State) (v : Bool) : (s.setAfterEi v).t3 = s.t3 := rfl
@[simp] theorem State.setAfterEi_t4 (s : State) (v : Bool) : (s.setAfterEi v).t4 = s.t4 := rfl
@[simp] theorem State.setAfterEi_bankX (s : State) (v : Bool) : (s.setAfterEi v).bankX = s.bankX := rfl
@[simp] theorem State.setAfterEi_bankY (s : State) (v : Bool) : (s.setAfterEi v).bankY = s.bankY := rfl
@[simp] theorem State.setAfterEi_mem (s : State) (v : Bool) : (s.setAfterEi v).mem = s.mem := rfl
@[simp] theorem State.setAfterEi_busAnswers (s : State) (v : Bool) : (s.setAfterEi v).busAnswers = s.busAnswers := rfl
@[simp] theorem State.setAfterEi_ports (s : State) (v : Bool) : (s.setAfterEi v).ports = s.ports := rfl
@[simp] theorem State.setAfterEi_callLog (s : State) (v : Bool) : (s.setAfterEi v).callLog = s.callLog := rfl
@[simp] theorem State.setAfterEi_cost (s : State) (v : Bool) : (s.setAfterEi v).cost = s.cost := rfl
@[simp] theorem State.setAfterEi_freeCount (s : State) (v : Bool) : (s.setAfterEi v).freeCount = s.freeCount := rfl
@[simp] theorem State.setAfterEi_cfg (s : State) (v : Bool) : (s.setAfterEi v).cfg = s.cfg := rfl

@[simp] theorem State.setPending_gbank0 (s : State) (v : BitVec 14) : (s.setPending v).gbank0 = s.gbank0 := rfl
@[simp] theorem State.setPending_gbank1 (s : State) (v : BitVec 14) : (s.setPending v).gbank1 = s.gbank1 := rfl
@[simp] theorem State.setPending_gsel (s : State) (v : BitVec 14) : (s.setPending v).gsel = s.gsel := rfl
@[simp] theorem State.setPending_afbank0 (s : State) (v : BitVec 14) : (s.setPending v).afbank0 = s.afbank0 := rfl
@[simp] theorem State.setPending_afbank1 (s : State) (v : BitVec 14) : (s.setPending v).afbank1 = s.afbank1 := rfl
@[simp] theorem State.setPending_asel (s : State) (v : BitVec 14) : (s.setPending v).asel = s.asel := rfl
@[simp] theorem State.setPending_ix (s : State) (v : BitVec 14) : (s.setPending v).ix = s.ix := rfl
@[simp] theorem State.setPending_iy (s : State) (v : BitVec 14) : (s.setPending v).iy = s.iy := rfl
@[simp] theorem State.setPending_sp (s : State) (v : BitVec 14) : (s.setPending v).sp = s.sp := rfl
@[simp] theorem State.setPending_pc (s : State) (v : BitVec 14) : (s.setPending v).pc = s.pc := rfl
@[simp] theorem State.setPending_halted (s : State) (v : BitVec 14) : (s.setPending v).halted = s.halted := rfl
@[simp] theorem State.setPending_afterEi (s : State) (v : BitVec 14) : (s.setPending v).afterEi = s.afterEi := rfl
@[simp] theorem State.setPending_residual (s : State) (v : BitVec 14) : (s.setPending v).residual = s.residual := rfl
@[simp] theorem State.setPending_pending (s : State) (v : BitVec 14) : (s.setPending v).pending = v := rfl
@[simp] theorem State.setPending_mask (s : State) (v : BitVec 14) : (s.setPending v).mask = s.mask := rfl
@[simp] theorem State.setPending_line (s : State) (v : BitVec 14) : (s.setPending v).line = s.line := rfl
@[simp] theorem State.setPending_t0 (s : State) (v : BitVec 14) : (s.setPending v).t0 = s.t0 := rfl
@[simp] theorem State.setPending_t1 (s : State) (v : BitVec 14) : (s.setPending v).t1 = s.t1 := rfl
@[simp] theorem State.setPending_t2 (s : State) (v : BitVec 14) : (s.setPending v).t2 = s.t2 := rfl
@[simp] theorem State.setPending_t3 (s : State) (v : BitVec 14) : (s.setPending v).t3 = s.t3 := rfl
@[simp] theorem State.setPending_t4 (s : State) (v : BitVec 14) : (s.setPending v).t4 = s.t4 := rfl
@[simp] theorem State.setPending_bankX (s : State) (v : BitVec 14) : (s.setPending v).bankX = s.bankX := rfl
@[simp] theorem State.setPending_bankY (s : State) (v : BitVec 14) : (s.setPending v).bankY = s.bankY := rfl
@[simp] theorem State.setPending_mem (s : State) (v : BitVec 14) : (s.setPending v).mem = s.mem := rfl
@[simp] theorem State.setPending_busAnswers (s : State) (v : BitVec 14) : (s.setPending v).busAnswers = s.busAnswers := rfl
@[simp] theorem State.setPending_ports (s : State) (v : BitVec 14) : (s.setPending v).ports = s.ports := rfl
@[simp] theorem State.setPending_callLog (s : State) (v : BitVec 14) : (s.setPending v).callLog = s.callLog := rfl
@[simp] theorem State.setPending_cost (s : State) (v : BitVec 14) : (s.setPending v).cost = s.cost := rfl
@[simp] theorem State.setPending_freeCount (s : State) (v : BitVec 14) : (s.setPending v).freeCount = s.freeCount := rfl
@[simp] theorem State.setPending_cfg (s : State) (v : BitVec 14) : (s.setPending v).cfg = s.cfg := rfl

@[simp] theorem State.setMask_gbank0 (s : State) (v : BitVec 14) : (s.setMask v).gbank0 = s.gbank0 := rfl
@[simp] theorem State.setMask_gbank1 (s : State) (v : BitVec 14) : (s.setMask v).gbank1 = s.gbank1 := rfl
@[simp] theorem State.setMask_gsel (s : State) (v : BitVec 14) : (s.setMask v).gsel = s.gsel := rfl
@[simp] theorem State.setMask_afbank0 (s : State) (v : BitVec 14) : (s.setMask v).afbank0 = s.afbank0 := rfl
@[simp] theorem State.setMask_afbank1 (s : State) (v : BitVec 14) : (s.setMask v).afbank1 = s.afbank1 := rfl
@[simp] theorem State.setMask_asel (s : State) (v : BitVec 14) : (s.setMask v).asel = s.asel := rfl
@[simp] theorem State.setMask_ix (s : State) (v : BitVec 14) : (s.setMask v).ix = s.ix := rfl
@[simp] theorem State.setMask_iy (s : State) (v : BitVec 14) : (s.setMask v).iy = s.iy := rfl
@[simp] theorem State.setMask_sp (s : State) (v : BitVec 14) : (s.setMask v).sp = s.sp := rfl
@[simp] theorem State.setMask_pc (s : State) (v : BitVec 14) : (s.setMask v).pc = s.pc := rfl
@[simp] theorem State.setMask_halted (s : State) (v : BitVec 14) : (s.setMask v).halted = s.halted := rfl
@[simp] theorem State.setMask_afterEi (s : State) (v : BitVec 14) : (s.setMask v).afterEi = s.afterEi := rfl
@[simp] theorem State.setMask_residual (s : State) (v : BitVec 14) : (s.setMask v).residual = s.residual := rfl
@[simp] theorem State.setMask_pending (s : State) (v : BitVec 14) : (s.setMask v).pending = s.pending := rfl
@[simp] theorem State.setMask_mask (s : State) (v : BitVec 14) : (s.setMask v).mask = v := rfl
@[simp] theorem State.setMask_line (s : State) (v : BitVec 14) : (s.setMask v).line = s.line := rfl
@[simp] theorem State.setMask_t0 (s : State) (v : BitVec 14) : (s.setMask v).t0 = s.t0 := rfl
@[simp] theorem State.setMask_t1 (s : State) (v : BitVec 14) : (s.setMask v).t1 = s.t1 := rfl
@[simp] theorem State.setMask_t2 (s : State) (v : BitVec 14) : (s.setMask v).t2 = s.t2 := rfl
@[simp] theorem State.setMask_t3 (s : State) (v : BitVec 14) : (s.setMask v).t3 = s.t3 := rfl
@[simp] theorem State.setMask_t4 (s : State) (v : BitVec 14) : (s.setMask v).t4 = s.t4 := rfl
@[simp] theorem State.setMask_bankX (s : State) (v : BitVec 14) : (s.setMask v).bankX = s.bankX := rfl
@[simp] theorem State.setMask_bankY (s : State) (v : BitVec 14) : (s.setMask v).bankY = s.bankY := rfl
@[simp] theorem State.setMask_mem (s : State) (v : BitVec 14) : (s.setMask v).mem = s.mem := rfl
@[simp] theorem State.setMask_busAnswers (s : State) (v : BitVec 14) : (s.setMask v).busAnswers = s.busAnswers := rfl
@[simp] theorem State.setMask_ports (s : State) (v : BitVec 14) : (s.setMask v).ports = s.ports := rfl
@[simp] theorem State.setMask_callLog (s : State) (v : BitVec 14) : (s.setMask v).callLog = s.callLog := rfl
@[simp] theorem State.setMask_cost (s : State) (v : BitVec 14) : (s.setMask v).cost = s.cost := rfl
@[simp] theorem State.setMask_freeCount (s : State) (v : BitVec 14) : (s.setMask v).freeCount = s.freeCount := rfl
@[simp] theorem State.setMask_cfg (s : State) (v : BitVec 14) : (s.setMask v).cfg = s.cfg := rfl

@[simp] theorem State.setBankX_gbank0 (s : State) (v : BitVec 4) : (s.setBankX v).gbank0 = s.gbank0 := rfl
@[simp] theorem State.setBankX_gbank1 (s : State) (v : BitVec 4) : (s.setBankX v).gbank1 = s.gbank1 := rfl
@[simp] theorem State.setBankX_gsel (s : State) (v : BitVec 4) : (s.setBankX v).gsel = s.gsel := rfl
@[simp] theorem State.setBankX_afbank0 (s : State) (v : BitVec 4) : (s.setBankX v).afbank0 = s.afbank0 := rfl
@[simp] theorem State.setBankX_afbank1 (s : State) (v : BitVec 4) : (s.setBankX v).afbank1 = s.afbank1 := rfl
@[simp] theorem State.setBankX_asel (s : State) (v : BitVec 4) : (s.setBankX v).asel = s.asel := rfl
@[simp] theorem State.setBankX_ix (s : State) (v : BitVec 4) : (s.setBankX v).ix = s.ix := rfl
@[simp] theorem State.setBankX_iy (s : State) (v : BitVec 4) : (s.setBankX v).iy = s.iy := rfl
@[simp] theorem State.setBankX_sp (s : State) (v : BitVec 4) : (s.setBankX v).sp = s.sp := rfl
@[simp] theorem State.setBankX_pc (s : State) (v : BitVec 4) : (s.setBankX v).pc = s.pc := rfl
@[simp] theorem State.setBankX_halted (s : State) (v : BitVec 4) : (s.setBankX v).halted = s.halted := rfl
@[simp] theorem State.setBankX_afterEi (s : State) (v : BitVec 4) : (s.setBankX v).afterEi = s.afterEi := rfl
@[simp] theorem State.setBankX_residual (s : State) (v : BitVec 4) : (s.setBankX v).residual = s.residual := rfl
@[simp] theorem State.setBankX_pending (s : State) (v : BitVec 4) : (s.setBankX v).pending = s.pending := rfl
@[simp] theorem State.setBankX_mask (s : State) (v : BitVec 4) : (s.setBankX v).mask = s.mask := rfl
@[simp] theorem State.setBankX_line (s : State) (v : BitVec 4) : (s.setBankX v).line = s.line := rfl
@[simp] theorem State.setBankX_t0 (s : State) (v : BitVec 4) : (s.setBankX v).t0 = s.t0 := rfl
@[simp] theorem State.setBankX_t1 (s : State) (v : BitVec 4) : (s.setBankX v).t1 = s.t1 := rfl
@[simp] theorem State.setBankX_t2 (s : State) (v : BitVec 4) : (s.setBankX v).t2 = s.t2 := rfl
@[simp] theorem State.setBankX_t3 (s : State) (v : BitVec 4) : (s.setBankX v).t3 = s.t3 := rfl
@[simp] theorem State.setBankX_t4 (s : State) (v : BitVec 4) : (s.setBankX v).t4 = s.t4 := rfl
@[simp] theorem State.setBankX_bankX (s : State) (v : BitVec 4) : (s.setBankX v).bankX = v := rfl
@[simp] theorem State.setBankX_bankY (s : State) (v : BitVec 4) : (s.setBankX v).bankY = s.bankY := rfl
@[simp] theorem State.setBankX_mem (s : State) (v : BitVec 4) : (s.setBankX v).mem = s.mem := rfl
@[simp] theorem State.setBankX_busAnswers (s : State) (v : BitVec 4) : (s.setBankX v).busAnswers = s.busAnswers := rfl
@[simp] theorem State.setBankX_ports (s : State) (v : BitVec 4) : (s.setBankX v).ports = s.ports := rfl
@[simp] theorem State.setBankX_callLog (s : State) (v : BitVec 4) : (s.setBankX v).callLog = s.callLog := rfl
@[simp] theorem State.setBankX_cost (s : State) (v : BitVec 4) : (s.setBankX v).cost = s.cost := rfl
@[simp] theorem State.setBankX_freeCount (s : State) (v : BitVec 4) : (s.setBankX v).freeCount = s.freeCount := rfl
@[simp] theorem State.setBankX_cfg (s : State) (v : BitVec 4) : (s.setBankX v).cfg = s.cfg := rfl

@[simp] theorem State.setBankY_gbank0 (s : State) (v : BitVec 4) : (s.setBankY v).gbank0 = s.gbank0 := rfl
@[simp] theorem State.setBankY_gbank1 (s : State) (v : BitVec 4) : (s.setBankY v).gbank1 = s.gbank1 := rfl
@[simp] theorem State.setBankY_gsel (s : State) (v : BitVec 4) : (s.setBankY v).gsel = s.gsel := rfl
@[simp] theorem State.setBankY_afbank0 (s : State) (v : BitVec 4) : (s.setBankY v).afbank0 = s.afbank0 := rfl
@[simp] theorem State.setBankY_afbank1 (s : State) (v : BitVec 4) : (s.setBankY v).afbank1 = s.afbank1 := rfl
@[simp] theorem State.setBankY_asel (s : State) (v : BitVec 4) : (s.setBankY v).asel = s.asel := rfl
@[simp] theorem State.setBankY_ix (s : State) (v : BitVec 4) : (s.setBankY v).ix = s.ix := rfl
@[simp] theorem State.setBankY_iy (s : State) (v : BitVec 4) : (s.setBankY v).iy = s.iy := rfl
@[simp] theorem State.setBankY_sp (s : State) (v : BitVec 4) : (s.setBankY v).sp = s.sp := rfl
@[simp] theorem State.setBankY_pc (s : State) (v : BitVec 4) : (s.setBankY v).pc = s.pc := rfl
@[simp] theorem State.setBankY_halted (s : State) (v : BitVec 4) : (s.setBankY v).halted = s.halted := rfl
@[simp] theorem State.setBankY_afterEi (s : State) (v : BitVec 4) : (s.setBankY v).afterEi = s.afterEi := rfl
@[simp] theorem State.setBankY_residual (s : State) (v : BitVec 4) : (s.setBankY v).residual = s.residual := rfl
@[simp] theorem State.setBankY_pending (s : State) (v : BitVec 4) : (s.setBankY v).pending = s.pending := rfl
@[simp] theorem State.setBankY_mask (s : State) (v : BitVec 4) : (s.setBankY v).mask = s.mask := rfl
@[simp] theorem State.setBankY_line (s : State) (v : BitVec 4) : (s.setBankY v).line = s.line := rfl
@[simp] theorem State.setBankY_t0 (s : State) (v : BitVec 4) : (s.setBankY v).t0 = s.t0 := rfl
@[simp] theorem State.setBankY_t1 (s : State) (v : BitVec 4) : (s.setBankY v).t1 = s.t1 := rfl
@[simp] theorem State.setBankY_t2 (s : State) (v : BitVec 4) : (s.setBankY v).t2 = s.t2 := rfl
@[simp] theorem State.setBankY_t3 (s : State) (v : BitVec 4) : (s.setBankY v).t3 = s.t3 := rfl
@[simp] theorem State.setBankY_t4 (s : State) (v : BitVec 4) : (s.setBankY v).t4 = s.t4 := rfl
@[simp] theorem State.setBankY_bankX (s : State) (v : BitVec 4) : (s.setBankY v).bankX = s.bankX := rfl
@[simp] theorem State.setBankY_bankY (s : State) (v : BitVec 4) : (s.setBankY v).bankY = v := rfl
@[simp] theorem State.setBankY_mem (s : State) (v : BitVec 4) : (s.setBankY v).mem = s.mem := rfl
@[simp] theorem State.setBankY_busAnswers (s : State) (v : BitVec 4) : (s.setBankY v).busAnswers = s.busAnswers := rfl
@[simp] theorem State.setBankY_ports (s : State) (v : BitVec 4) : (s.setBankY v).ports = s.ports := rfl
@[simp] theorem State.setBankY_callLog (s : State) (v : BitVec 4) : (s.setBankY v).callLog = s.callLog := rfl
@[simp] theorem State.setBankY_cost (s : State) (v : BitVec 4) : (s.setBankY v).cost = s.cost := rfl
@[simp] theorem State.setBankY_freeCount (s : State) (v : BitVec 4) : (s.setBankY v).freeCount = s.freeCount := rfl
@[simp] theorem State.setBankY_cfg (s : State) (v : BitVec 4) : (s.setBankY v).cfg = s.cfg := rfl

@[simp] theorem State.setMem_gbank0 (s : State) (v : Memory) : (s.setMem v).gbank0 = s.gbank0 := rfl
@[simp] theorem State.setMem_gbank1 (s : State) (v : Memory) : (s.setMem v).gbank1 = s.gbank1 := rfl
@[simp] theorem State.setMem_gsel (s : State) (v : Memory) : (s.setMem v).gsel = s.gsel := rfl
@[simp] theorem State.setMem_afbank0 (s : State) (v : Memory) : (s.setMem v).afbank0 = s.afbank0 := rfl
@[simp] theorem State.setMem_afbank1 (s : State) (v : Memory) : (s.setMem v).afbank1 = s.afbank1 := rfl
@[simp] theorem State.setMem_asel (s : State) (v : Memory) : (s.setMem v).asel = s.asel := rfl
@[simp] theorem State.setMem_ix (s : State) (v : Memory) : (s.setMem v).ix = s.ix := rfl
@[simp] theorem State.setMem_iy (s : State) (v : Memory) : (s.setMem v).iy = s.iy := rfl
@[simp] theorem State.setMem_sp (s : State) (v : Memory) : (s.setMem v).sp = s.sp := rfl
@[simp] theorem State.setMem_pc (s : State) (v : Memory) : (s.setMem v).pc = s.pc := rfl
@[simp] theorem State.setMem_halted (s : State) (v : Memory) : (s.setMem v).halted = s.halted := rfl
@[simp] theorem State.setMem_afterEi (s : State) (v : Memory) : (s.setMem v).afterEi = s.afterEi := rfl
@[simp] theorem State.setMem_residual (s : State) (v : Memory) : (s.setMem v).residual = s.residual := rfl
@[simp] theorem State.setMem_pending (s : State) (v : Memory) : (s.setMem v).pending = s.pending := rfl
@[simp] theorem State.setMem_mask (s : State) (v : Memory) : (s.setMem v).mask = s.mask := rfl
@[simp] theorem State.setMem_line (s : State) (v : Memory) : (s.setMem v).line = s.line := rfl
@[simp] theorem State.setMem_t0 (s : State) (v : Memory) : (s.setMem v).t0 = s.t0 := rfl
@[simp] theorem State.setMem_t1 (s : State) (v : Memory) : (s.setMem v).t1 = s.t1 := rfl
@[simp] theorem State.setMem_t2 (s : State) (v : Memory) : (s.setMem v).t2 = s.t2 := rfl
@[simp] theorem State.setMem_t3 (s : State) (v : Memory) : (s.setMem v).t3 = s.t3 := rfl
@[simp] theorem State.setMem_t4 (s : State) (v : Memory) : (s.setMem v).t4 = s.t4 := rfl
@[simp] theorem State.setMem_bankX (s : State) (v : Memory) : (s.setMem v).bankX = s.bankX := rfl
@[simp] theorem State.setMem_bankY (s : State) (v : Memory) : (s.setMem v).bankY = s.bankY := rfl
@[simp] theorem State.setMem_mem (s : State) (v : Memory) : (s.setMem v).mem = v := rfl
@[simp] theorem State.setMem_busAnswers (s : State) (v : Memory) : (s.setMem v).busAnswers = s.busAnswers := rfl
@[simp] theorem State.setMem_ports (s : State) (v : Memory) : (s.setMem v).ports = s.ports := rfl
@[simp] theorem State.setMem_callLog (s : State) (v : Memory) : (s.setMem v).callLog = s.callLog := rfl
@[simp] theorem State.setMem_cost (s : State) (v : Memory) : (s.setMem v).cost = s.cost := rfl
@[simp] theorem State.setMem_freeCount (s : State) (v : Memory) : (s.setMem v).freeCount = s.freeCount := rfl
@[simp] theorem State.setMem_cfg (s : State) (v : Memory) : (s.setMem v).cfg = s.cfg := rfl

@[simp] theorem State.setTimer16_gbank0 (s : State) (v : Timer16) : (s.setTimer16 v).gbank0 = s.gbank0 := rfl
@[simp] theorem State.setTimer16_gbank1 (s : State) (v : Timer16) : (s.setTimer16 v).gbank1 = s.gbank1 := rfl
@[simp] theorem State.setTimer16_gsel (s : State) (v : Timer16) : (s.setTimer16 v).gsel = s.gsel := rfl
@[simp] theorem State.setTimer16_afbank0 (s : State) (v : Timer16) : (s.setTimer16 v).afbank0 = s.afbank0 := rfl
@[simp] theorem State.setTimer16_afbank1 (s : State) (v : Timer16) : (s.setTimer16 v).afbank1 = s.afbank1 := rfl
@[simp] theorem State.setTimer16_asel (s : State) (v : Timer16) : (s.setTimer16 v).asel = s.asel := rfl
@[simp] theorem State.setTimer16_ix (s : State) (v : Timer16) : (s.setTimer16 v).ix = s.ix := rfl
@[simp] theorem State.setTimer16_iy (s : State) (v : Timer16) : (s.setTimer16 v).iy = s.iy := rfl
@[simp] theorem State.setTimer16_sp (s : State) (v : Timer16) : (s.setTimer16 v).sp = s.sp := rfl
@[simp] theorem State.setTimer16_pc (s : State) (v : Timer16) : (s.setTimer16 v).pc = s.pc := rfl
@[simp] theorem State.setTimer16_halted (s : State) (v : Timer16) : (s.setTimer16 v).halted = s.halted := rfl
@[simp] theorem State.setTimer16_afterEi (s : State) (v : Timer16) : (s.setTimer16 v).afterEi = s.afterEi := rfl
@[simp] theorem State.setTimer16_residual (s : State) (v : Timer16) : (s.setTimer16 v).residual = s.residual := rfl
@[simp] theorem State.setTimer16_pending (s : State) (v : Timer16) : (s.setTimer16 v).pending = s.pending := rfl
@[simp] theorem State.setTimer16_mask (s : State) (v : Timer16) : (s.setTimer16 v).mask = s.mask := rfl
@[simp] theorem State.setTimer16_line (s : State) (v : Timer16) : (s.setTimer16 v).line = s.line := rfl
@[simp] theorem State.setTimer16_t0 (s : State) (v : Timer16) : (s.setTimer16 v).t0 = s.t0 := rfl
@[simp] theorem State.setTimer16_t1 (s : State) (v : Timer16) : (s.setTimer16 v).t1 = s.t1 := rfl
@[simp] theorem State.setTimer16_t2 (s : State) (v : Timer16) : (s.setTimer16 v).t2 = s.t2 := rfl
@[simp] theorem State.setTimer16_t3 (s : State) (v : Timer16) : (s.setTimer16 v).t3 = s.t3 := rfl
@[simp] theorem State.setTimer16_t4 (s : State) (v : Timer16) : (s.setTimer16 v).t4 = v := rfl
@[simp] theorem State.setTimer16_bankX (s : State) (v : Timer16) : (s.setTimer16 v).bankX = s.bankX := rfl
@[simp] theorem State.setTimer16_bankY (s : State) (v : Timer16) : (s.setTimer16 v).bankY = s.bankY := rfl
@[simp] theorem State.setTimer16_mem (s : State) (v : Timer16) : (s.setTimer16 v).mem = s.mem := rfl
@[simp] theorem State.setTimer16_busAnswers (s : State) (v : Timer16) : (s.setTimer16 v).busAnswers = s.busAnswers := rfl
@[simp] theorem State.setTimer16_ports (s : State) (v : Timer16) : (s.setTimer16 v).ports = s.ports := rfl
@[simp] theorem State.setTimer16_callLog (s : State) (v : Timer16) : (s.setTimer16 v).callLog = s.callLog := rfl
@[simp] theorem State.setTimer16_cost (s : State) (v : Timer16) : (s.setTimer16 v).cost = s.cost := rfl
@[simp] theorem State.setTimer16_freeCount (s : State) (v : Timer16) : (s.setTimer16 v).freeCount = s.freeCount := rfl
@[simp] theorem State.setTimer16_cfg (s : State) (v : Timer16) : (s.setTimer16 v).cfg = s.cfg := rfl

@[simp] theorem State.setCost_gbank0 (s : State) (v : Nat) : (s.setCost v).gbank0 = s.gbank0 := rfl
@[simp] theorem State.setCost_gbank1 (s : State) (v : Nat) : (s.setCost v).gbank1 = s.gbank1 := rfl
@[simp] theorem State.setCost_gsel (s : State) (v : Nat) : (s.setCost v).gsel = s.gsel := rfl
@[simp] theorem State.setCost_afbank0 (s : State) (v : Nat) : (s.setCost v).afbank0 = s.afbank0 := rfl
@[simp] theorem State.setCost_afbank1 (s : State) (v : Nat) : (s.setCost v).afbank1 = s.afbank1 := rfl
@[simp] theorem State.setCost_asel (s : State) (v : Nat) : (s.setCost v).asel = s.asel := rfl
@[simp] theorem State.setCost_ix (s : State) (v : Nat) : (s.setCost v).ix = s.ix := rfl
@[simp] theorem State.setCost_iy (s : State) (v : Nat) : (s.setCost v).iy = s.iy := rfl
@[simp] theorem State.setCost_sp (s : State) (v : Nat) : (s.setCost v).sp = s.sp := rfl
@[simp] theorem State.setCost_pc (s : State) (v : Nat) : (s.setCost v).pc = s.pc := rfl
@[simp] theorem State.setCost_halted (s : State) (v : Nat) : (s.setCost v).halted = s.halted := rfl
@[simp] theorem State.setCost_afterEi (s : State) (v : Nat) : (s.setCost v).afterEi = s.afterEi := rfl
@[simp] theorem State.setCost_residual (s : State) (v : Nat) : (s.setCost v).residual = s.residual := rfl
@[simp] theorem State.setCost_pending (s : State) (v : Nat) : (s.setCost v).pending = s.pending := rfl
@[simp] theorem State.setCost_mask (s : State) (v : Nat) : (s.setCost v).mask = s.mask := rfl
@[simp] theorem State.setCost_line (s : State) (v : Nat) : (s.setCost v).line = s.line := rfl
@[simp] theorem State.setCost_t0 (s : State) (v : Nat) : (s.setCost v).t0 = s.t0 := rfl
@[simp] theorem State.setCost_t1 (s : State) (v : Nat) : (s.setCost v).t1 = s.t1 := rfl
@[simp] theorem State.setCost_t2 (s : State) (v : Nat) : (s.setCost v).t2 = s.t2 := rfl
@[simp] theorem State.setCost_t3 (s : State) (v : Nat) : (s.setCost v).t3 = s.t3 := rfl
@[simp] theorem State.setCost_t4 (s : State) (v : Nat) : (s.setCost v).t4 = s.t4 := rfl
@[simp] theorem State.setCost_bankX (s : State) (v : Nat) : (s.setCost v).bankX = s.bankX := rfl
@[simp] theorem State.setCost_bankY (s : State) (v : Nat) : (s.setCost v).bankY = s.bankY := rfl
@[simp] theorem State.setCost_mem (s : State) (v : Nat) : (s.setCost v).mem = s.mem := rfl
@[simp] theorem State.setCost_busAnswers (s : State) (v : Nat) : (s.setCost v).busAnswers = s.busAnswers := rfl
@[simp] theorem State.setCost_ports (s : State) (v : Nat) : (s.setCost v).ports = s.ports := rfl
@[simp] theorem State.setCost_callLog (s : State) (v : Nat) : (s.setCost v).callLog = s.callLog := rfl
@[simp] theorem State.setCost_cost (s : State) (v : Nat) : (s.setCost v).cost = v := rfl
@[simp] theorem State.setCost_freeCount (s : State) (v : Nat) : (s.setCost v).freeCount = s.freeCount := rfl
@[simp] theorem State.setCost_cfg (s : State) (v : Nat) : (s.setCost v).cfg = s.cfg := rfl

@[simp] theorem State.setTimer8_gbank0 (s : State) (i : Fin 4) (t : Timer8) : (s.setTimer8 i t).gbank0 = s.gbank0 := rfl
@[simp] theorem State.setTimer8_gbank1 (s : State) (i : Fin 4) (t : Timer8) : (s.setTimer8 i t).gbank1 = s.gbank1 := rfl
@[simp] theorem State.setTimer8_gsel (s : State) (i : Fin 4) (t : Timer8) : (s.setTimer8 i t).gsel = s.gsel := rfl
@[simp] theorem State.setTimer8_afbank0 (s : State) (i : Fin 4) (t : Timer8) : (s.setTimer8 i t).afbank0 = s.afbank0 := rfl
@[simp] theorem State.setTimer8_afbank1 (s : State) (i : Fin 4) (t : Timer8) : (s.setTimer8 i t).afbank1 = s.afbank1 := rfl
@[simp] theorem State.setTimer8_asel (s : State) (i : Fin 4) (t : Timer8) : (s.setTimer8 i t).asel = s.asel := rfl
@[simp] theorem State.setTimer8_ix (s : State) (i : Fin 4) (t : Timer8) : (s.setTimer8 i t).ix = s.ix := rfl
@[simp] theorem State.setTimer8_iy (s : State) (i : Fin 4) (t : Timer8) : (s.setTimer8 i t).iy = s.iy := rfl
@[simp] theorem State.setTimer8_sp (s : State) (i : Fin 4) (t : Timer8) : (s.setTimer8 i t).sp = s.sp := rfl
@[simp] theorem State.setTimer8_pc (s : State) (i : Fin 4) (t : Timer8) : (s.setTimer8 i t).pc = s.pc := rfl
@[simp] theorem State.setTimer8_halted (s : State) (i : Fin 4) (t : Timer8) : (s.setTimer8 i t).halted = s.halted := rfl
@[simp] theorem State.setTimer8_afterEi (s : State) (i : Fin 4) (t : Timer8) : (s.setTimer8 i t).afterEi = s.afterEi := rfl
@[simp] theorem State.setTimer8_residual (s : State) (i : Fin 4) (t : Timer8) : (s.setTimer8 i t).residual = s.residual := rfl
@[simp] theorem State.setTimer8_pending (s : State) (i : Fin 4) (t : Timer8) : (s.setTimer8 i t).pending = s.pending := rfl
@[simp] theorem State.setTimer8_mask (s : State) (i : Fin 4) (t : Timer8) : (s.setTimer8 i t).mask = s.mask := rfl
@[simp] theorem State.setTimer8_line (s : State) (i : Fin 4) (t : Timer8) : (s.setTimer8 i t).line = s.line := rfl
@[simp] theorem State.setTimer8_t0 (s : State) (i : Fin 4) (t : Timer8) : (s.setTimer8 i t).t0 = (if i = 0 then t else s.t0) := rfl
@[simp] theorem State.setTimer8_t1 (s : State) (i : Fin 4) (t : Timer8) : (s.setTimer8 i t).t1 = (if i = 1 then t else s.t1) := rfl
@[simp] theorem State.setTimer8_t2 (s : State) (i : Fin 4) (t : Timer8) : (s.setTimer8 i t).t2 = (if i = 2 then t else s.t2) := rfl
@[simp] theorem State.setTimer8_t3 (s : State) (i : Fin 4) (t : Timer8) : (s.setTimer8 i t).t3 = (if i = 3 then t else s.t3) := rfl
@[simp] theorem State.setTimer8_t4 (s : State) (i : Fin 4) (t : Timer8) : (s.setTimer8 i t).t4 = s.t4 := rfl
@[simp] theorem State.setTimer8_bankX (s : State) (i : Fin 4) (t : Timer8) : (s.setTimer8 i t).bankX = s.bankX := rfl
@[simp] theorem State.setTimer8_bankY (s : State) (i : Fin 4) (t : Timer8) : (s.setTimer8 i t).bankY = s.bankY := rfl
@[simp] theorem State.setTimer8_mem (s : State) (i : Fin 4) (t : Timer8) : (s.setTimer8 i t).mem = s.mem := rfl
@[simp] theorem State.setTimer8_busAnswers (s : State) (i : Fin 4) (t : Timer8) : (s.setTimer8 i t).busAnswers = s.busAnswers := rfl
@[simp] theorem State.setTimer8_ports (s : State) (i : Fin 4) (t : Timer8) : (s.setTimer8 i t).ports = s.ports := rfl
@[simp] theorem State.setTimer8_callLog (s : State) (i : Fin 4) (t : Timer8) : (s.setTimer8 i t).callLog = s.callLog := rfl
@[simp] theorem State.setTimer8_cost (s : State) (i : Fin 4) (t : Timer8) : (s.setTimer8 i t).cost = s.cost := rfl
@[simp] theorem State.setTimer8_freeCount (s : State) (i : Fin 4) (t : Timer8) : (s.setTimer8 i t).freeCount = s.freeCount := rfl
@[simp] theorem State.setTimer8_cfg (s : State) (i : Fin 4) (t : Timer8) : (s.setTimer8 i t).cfg = s.cfg := rfl

@[simp] theorem State.portCall_gbank0 (s : State) (n : Fin 9) (w : PortWire) (e : CallEvent) : (s.portCall n w e).gbank0 = s.gbank0 := rfl
@[simp] theorem State.portCall_gbank1 (s : State) (n : Fin 9) (w : PortWire) (e : CallEvent) : (s.portCall n w e).gbank1 = s.gbank1 := rfl
@[simp] theorem State.portCall_gsel (s : State) (n : Fin 9) (w : PortWire) (e : CallEvent) : (s.portCall n w e).gsel = s.gsel := rfl
@[simp] theorem State.portCall_afbank0 (s : State) (n : Fin 9) (w : PortWire) (e : CallEvent) : (s.portCall n w e).afbank0 = s.afbank0 := rfl
@[simp] theorem State.portCall_afbank1 (s : State) (n : Fin 9) (w : PortWire) (e : CallEvent) : (s.portCall n w e).afbank1 = s.afbank1 := rfl
@[simp] theorem State.portCall_asel (s : State) (n : Fin 9) (w : PortWire) (e : CallEvent) : (s.portCall n w e).asel = s.asel := rfl
@[simp] theorem State.portCall_ix (s : State) (n : Fin 9) (w : PortWire) (e : CallEvent) : (s.portCall n w e).ix = s.ix := rfl
@[simp] theorem State.portCall_iy (s : State) (n : Fin 9) (w : PortWire) (e : CallEvent) : (s.portCall n w e).iy = s.iy := rfl
@[simp] theorem State.portCall_sp (s : State) (n : Fin 9) (w : PortWire) (e : CallEvent) : (s.portCall n w e).sp = s.sp := rfl
@[simp] theorem State.portCall_pc (s : State) (n : Fin 9) (w : PortWire) (e : CallEvent) : (s.portCall n w e).pc = s.pc := rfl
@[simp] theorem State.portCall_halted (s : State) (n : Fin 9) (w : PortWire) (e : CallEvent) : (s.portCall n w e).halted = s.halted := rfl
@[simp] theorem State.portCall_afterEi (s : State) (n : Fin 9) (w : PortWire) (e : CallEvent) : (s.portCall n w e).afterEi = s.afterEi := rfl
@[simp] theorem State.portCall_residual (s : State) (n : Fin 9) (w : PortWire) (e : CallEvent) : (s.portCall n w e).residual = s.residual := rfl
@[simp] theorem State.portCall_pending (s : State) (n : Fin 9) (w : PortWire) (e : CallEvent) : (s.portCall n w e).pending = s.pending := rfl
@[simp] theorem State.portCall_mask (s : State) (n : Fin 9) (w : PortWire) (e : CallEvent) : (s.portCall n w e).mask = s.mask := rfl
@[simp] theorem State.portCall_line (s : State) (n : Fin 9) (w : PortWire) (e : CallEvent) : (s.portCall n w e).line = s.line := rfl
@[simp] theorem State.portCall_t0 (s : State) (n : Fin 9) (w : PortWire) (e : CallEvent) : (s.portCall n w e).t0 = s.t0 := rfl
@[simp] theorem State.portCall_t1 (s : State) (n : Fin 9) (w : PortWire) (e : CallEvent) : (s.portCall n w e).t1 = s.t1 := rfl
@[simp] theorem State.portCall_t2 (s : State) (n : Fin 9) (w : PortWire) (e : CallEvent) : (s.portCall n w e).t2 = s.t2 := rfl
@[simp] theorem State.portCall_t3 (s : State) (n : Fin 9) (w : PortWire) (e : CallEvent) : (s.portCall n w e).t3 = s.t3 := rfl
@[simp] theorem State.portCall_t4 (s : State) (n : Fin 9) (w : PortWire) (e : CallEvent) : (s.portCall n w e).t4 = s.t4 := rfl
@[simp] theorem State.portCall_bankX (s : State) (n : Fin 9) (w : PortWire) (e : CallEvent) : (s.portCall n w e).bankX = s.bankX := rfl
@[simp] theorem State.portCall_bankY (s : State) (n : Fin 9) (w : PortWire) (e : CallEvent) : (s.portCall n w e).bankY = s.bankY := rfl
@[simp] theorem State.portCall_mem (s : State) (n : Fin 9) (w : PortWire) (e : CallEvent) : (s.portCall n w e).mem = s.mem := rfl
@[simp] theorem State.portCall_busAnswers (s : State) (n : Fin 9) (w : PortWire) (e : CallEvent) : (s.portCall n w e).busAnswers = s.busAnswers := rfl
@[simp] theorem State.portCall_ports (s : State) (n : Fin 9) (w : PortWire) (e : CallEvent) : (s.portCall n w e).ports = s.ports.set n.val w := rfl
@[simp] theorem State.portCall_callLog (s : State) (n : Fin 9) (w : PortWire) (e : CallEvent) : (s.portCall n w e).callLog = e :: s.callLog := rfl
@[simp] theorem State.portCall_cost (s : State) (n : Fin 9) (w : PortWire) (e : CallEvent) : (s.portCall n w e).cost = s.cost := rfl
@[simp] theorem State.portCall_freeCount (s : State) (n : Fin 9) (w : PortWire) (e : CallEvent) : (s.portCall n w e).freeCount = s.freeCount := rfl
@[simp] theorem State.portCall_cfg (s : State) (n : Fin 9) (w : PortWire) (e : CallEvent) : (s.portCall n w e).cfg = s.cfg := rfl

@[simp] theorem State.busCall_gbank0 (s : State) (b : List Byte) (e : CallEvent) : (s.busCall b e).gbank0 = s.gbank0 := rfl
@[simp] theorem State.busCall_gbank1 (s : State) (b : List Byte) (e : CallEvent) : (s.busCall b e).gbank1 = s.gbank1 := rfl
@[simp] theorem State.busCall_gsel (s : State) (b : List Byte) (e : CallEvent) : (s.busCall b e).gsel = s.gsel := rfl
@[simp] theorem State.busCall_afbank0 (s : State) (b : List Byte) (e : CallEvent) : (s.busCall b e).afbank0 = s.afbank0 := rfl
@[simp] theorem State.busCall_afbank1 (s : State) (b : List Byte) (e : CallEvent) : (s.busCall b e).afbank1 = s.afbank1 := rfl
@[simp] theorem State.busCall_asel (s : State) (b : List Byte) (e : CallEvent) : (s.busCall b e).asel = s.asel := rfl
@[simp] theorem State.busCall_ix (s : State) (b : List Byte) (e : CallEvent) : (s.busCall b e).ix = s.ix := rfl
@[simp] theorem State.busCall_iy (s : State) (b : List Byte) (e : CallEvent) : (s.busCall b e).iy = s.iy := rfl
@[simp] theorem State.busCall_sp (s : State) (b : List Byte) (e : CallEvent) : (s.busCall b e).sp = s.sp := rfl
@[simp] theorem State.busCall_pc (s : State) (b : List Byte) (e : CallEvent) : (s.busCall b e).pc = s.pc := rfl
@[simp] theorem State.busCall_halted (s : State) (b : List Byte) (e : CallEvent) : (s.busCall b e).halted = s.halted := rfl
@[simp] theorem State.busCall_afterEi (s : State) (b : List Byte) (e : CallEvent) : (s.busCall b e).afterEi = s.afterEi := rfl
@[simp] theorem State.busCall_residual (s : State) (b : List Byte) (e : CallEvent) : (s.busCall b e).residual = s.residual := rfl
@[simp] theorem State.busCall_pending (s : State) (b : List Byte) (e : CallEvent) : (s.busCall b e).pending = s.pending := rfl
@[simp] theorem State.busCall_mask (s : State) (b : List Byte) (e : CallEvent) : (s.busCall b e).mask = s.mask := rfl
@[simp] theorem State.busCall_line (s : State) (b : List Byte) (e : CallEvent) : (s.busCall b e).line = s.line := rfl
@[simp] theorem State.busCall_t0 (s : State) (b : List Byte) (e : CallEvent) : (s.busCall b e).t0 = s.t0 := rfl
@[simp] theorem State.busCall_t1 (s : State) (b : List Byte) (e : CallEvent) : (s.busCall b e).t1 = s.t1 := rfl
@[simp] theorem State.busCall_t2 (s : State) (b : List Byte) (e : CallEvent) : (s.busCall b e).t2 = s.t2 := rfl
@[simp] theorem State.busCall_t3 (s : State) (b : List Byte) (e : CallEvent) : (s.busCall b e).t3 = s.t3 := rfl
@[simp] theorem State.busCall_t4 (s : State) (b : List Byte) (e : CallEvent) : (s.busCall b e).t4 = s.t4 := rfl
@[simp] theorem State.busCall_bankX (s : State) (b : List Byte) (e : CallEvent) : (s.busCall b e).bankX = s.bankX := rfl
@[simp] theorem State.busCall_bankY (s : State) (b : List Byte) (e : CallEvent) : (s.busCall b e).bankY = s.bankY := rfl
@[simp] theorem State.busCall_mem (s : State) (b : List Byte) (e : CallEvent) : (s.busCall b e).mem = s.mem := rfl
@[simp] theorem State.busCall_busAnswers (s : State) (b : List Byte) (e : CallEvent) : (s.busCall b e).busAnswers = b := rfl
@[simp] theorem State.busCall_ports (s : State) (b : List Byte) (e : CallEvent) : (s.busCall b e).ports = s.ports := rfl
@[simp] theorem State.busCall_callLog (s : State) (b : List Byte) (e : CallEvent) : (s.busCall b e).callLog = e :: s.callLog := rfl
@[simp] theorem State.busCall_cost (s : State) (b : List Byte) (e : CallEvent) : (s.busCall b e).cost = s.cost := rfl
@[simp] theorem State.busCall_freeCount (s : State) (b : List Byte) (e : CallEvent) : (s.busCall b e).freeCount = s.freeCount := rfl
@[simp] theorem State.busCall_cfg (s : State) (b : List Byte) (e : CallEvent) : (s.busCall b e).cfg = s.cfg := rfl

@[simp] theorem State.takeFree_gbank0 (s : State) : (s.takeFree).gbank0 = s.gbank0 := rfl
@[simp] theorem State.takeFree_gbank1 (s : State) : (s.takeFree).gbank1 = s.gbank1 := rfl
@[simp] theorem State.takeFree_gsel (s : State) : (s.takeFree).gsel = s.gsel := rfl
@[simp] theorem State.takeFree_afbank0 (s : State) : (s.takeFree).afbank0 = s.afbank0 := rfl
@[simp] theorem State.takeFree_afbank1 (s : State) : (s.takeFree).afbank1 = s.afbank1 := rfl
@[simp] theorem State.takeFree_asel (s : State) : (s.takeFree).asel = s.asel := rfl
@[simp] theorem State.takeFree_ix (s : State) : (s.takeFree).ix = s.ix := rfl
@[simp] theorem State.takeFree_iy (s : State) : (s.takeFree).iy = s.iy := rfl
@[simp] theorem State.takeFree_sp (s : State) : (s.takeFree).sp = s.sp := rfl
@[simp] theorem State.takeFree_pc (s : State) : (s.takeFree).pc = s.pc := rfl
@[simp] theorem State.takeFree_halted (s : State) : (s.takeFree).halted = s.halted := rfl
@[simp] theorem State.takeFree_afterEi (s : State) : (s.takeFree).afterEi = s.afterEi := rfl
@[simp] theorem State.takeFree_residual (s : State) : (s.takeFree).residual = s.residual := rfl
@[simp] theorem State.takeFree_pending (s : State) : (s.takeFree).pending = s.pending := rfl
@[simp] theorem State.takeFree_mask (s : State) : (s.takeFree).mask = s.mask := rfl
@[simp] theorem State.takeFree_line (s : State) : (s.takeFree).line = s.line := rfl
@[simp] theorem State.takeFree_t0 (s : State) : (s.takeFree).t0 = s.t0 := rfl
@[simp] theorem State.takeFree_t1 (s : State) : (s.takeFree).t1 = s.t1 := rfl
@[simp] theorem State.takeFree_t2 (s : State) : (s.takeFree).t2 = s.t2 := rfl
@[simp] theorem State.takeFree_t3 (s : State) : (s.takeFree).t3 = s.t3 := rfl
@[simp] theorem State.takeFree_t4 (s : State) : (s.takeFree).t4 = s.t4 := rfl
@[simp] theorem State.takeFree_bankX (s : State) : (s.takeFree).bankX = s.bankX := rfl
@[simp] theorem State.takeFree_bankY (s : State) : (s.takeFree).bankY = s.bankY := rfl
@[simp] theorem State.takeFree_mem (s : State) : (s.takeFree).mem = s.mem := rfl
@[simp] theorem State.takeFree_busAnswers (s : State) : (s.takeFree).busAnswers = s.busAnswers := rfl
@[simp] theorem State.takeFree_ports (s : State) : (s.takeFree).ports = s.ports := rfl
@[simp] theorem State.takeFree_callLog (s : State) : (s.takeFree).callLog = s.callLog := rfl
@[simp] theorem State.takeFree_cost (s : State) : (s.takeFree).cost = s.cost := rfl
@[simp] theorem State.takeFree_freeCount (s : State) : (s.takeFree).freeCount = s.freeCount + 1 := rfl
@[simp] theorem State.takeFree_cfg (s : State) : (s.takeFree).cfg = s.cfg := rfl


/-! ### Banks and registers after an update -/

@[simp] theorem State.setIx_gen (s : State) (v : Word) : (s.setIx v).gen = s.gen := rfl
@[simp] theorem State.setIx_genShadow (s : State) (v : Word) : (s.setIx v).genShadow = s.genShadow := rfl
@[simp] theorem State.setIx_af (s : State) (v : Word) : (s.setIx v).af = s.af := rfl
@[simp] theorem State.setIx_afShadow (s : State) (v : Word) : (s.setIx v).afShadow = s.afShadow := rfl
@[simp] theorem State.setIx_f (s : State) (v : Word) : (s.setIx v).f = s.f := rfl
@[simp] theorem State.setIx_get8 (s : State) (v : Word) (r : Reg8) : (s.setIx v).get8 r = s.get8 r := by cases r <;> rfl

@[simp] theorem State.setIy_gen (s : State) (v : Word) : (s.setIy v).gen = s.gen := rfl
@[simp] theorem State.setIy_genShadow (s : State) (v : Word) : (s.setIy v).genShadow = s.genShadow := rfl
@[simp] theorem State.setIy_af (s : State) (v : Word) : (s.setIy v).af = s.af := rfl
@[simp] theorem State.setIy_afShadow (s : State) (v : Word) : (s.setIy v).afShadow = s.afShadow := rfl
@[simp] theorem State.setIy_f (s : State) (v : Word) : (s.setIy v).f = s.f := rfl
@[simp] theorem State.setIy_get8 (s : State) (v : Word) (r : Reg8) : (s.setIy v).get8 r = s.get8 r := by cases r <;> rfl

@[simp] theorem State.setSp_gen (s : State) (v : Word) : (s.setSp v).gen = s.gen := rfl
@[simp] theorem State.setSp_genShadow (s : State) (v : Word) : (s.setSp v).genShadow = s.genShadow := rfl
@[simp] theorem State.setSp_af (s : State) (v : Word) : (s.setSp v).af = s.af := rfl
@[simp] theorem State.setSp_afShadow (s : State) (v : Word) : (s.setSp v).afShadow = s.afShadow := rfl
@[simp] theorem State.setSp_f (s : State) (v : Word) : (s.setSp v).f = s.f := rfl
@[simp] theorem State.setSp_get8 (s : State) (v : Word) (r : Reg8) : (s.setSp v).get8 r = s.get8 r := by cases r <;> rfl

@[simp] theorem State.setPc_gen (s : State) (v : Word) : (s.setPc v).gen = s.gen := rfl
@[simp] theorem State.setPc_genShadow (s : State) (v : Word) : (s.setPc v).genShadow = s.genShadow := rfl
@[simp] theorem State.setPc_af (s : State) (v : Word) : (s.setPc v).af = s.af := rfl
@[simp] theorem State.setPc_afShadow (s : State) (v : Word) : (s.setPc v).afShadow = s.afShadow := rfl
@[simp] theorem State.setPc_f (s : State) (v : Word) : (s.setPc v).f = s.f := rfl
@[simp] theorem State.setPc_get8 (s : State) (v : Word) (r : Reg8) : (s.setPc v).get8 r = s.get8 r := by cases r <;> rfl
@[simp] theorem State.setPc_get16 (s : State) (v : Word) (g : Reg16) : (s.setPc v).get16 g = s.get16 g := by cases g <;> rfl
@[simp] theorem State.setPc_getQ (s : State) (v : Word) (q : RegQ) : (s.setPc v).getQ q = s.getQ q := by cases q <;> rfl

@[simp] theorem State.setHalted_gen (s : State) (v : Bool) : (s.setHalted v).gen = s.gen := rfl
@[simp] theorem State.setHalted_genShadow (s : State) (v : Bool) : (s.setHalted v).genShadow = s.genShadow := rfl
@[simp] theorem State.setHalted_af (s : State) (v : Bool) : (s.setHalted v).af = s.af := rfl
@[simp] theorem State.setHalted_afShadow (s : State) (v : Bool) : (s.setHalted v).afShadow = s.afShadow := rfl
@[simp] theorem State.setHalted_f (s : State) (v : Bool) : (s.setHalted v).f = s.f := rfl
@[simp] theorem State.setHalted_get8 (s : State) (v : Bool) (r : Reg8) : (s.setHalted v).get8 r = s.get8 r := by cases r <;> rfl
@[simp] theorem State.setHalted_get16 (s : State) (v : Bool) (g : Reg16) : (s.setHalted v).get16 g = s.get16 g := by cases g <;> rfl
@[simp] theorem State.setHalted_getQ (s : State) (v : Bool) (q : RegQ) : (s.setHalted v).getQ q = s.getQ q := by cases q <;> rfl

@[simp] theorem State.setAfterEi_gen (s : State) (v : Bool) : (s.setAfterEi v).gen = s.gen := rfl
@[simp] theorem State.setAfterEi_genShadow (s : State) (v : Bool) : (s.setAfterEi v).genShadow = s.genShadow := rfl
@[simp] theorem State.setAfterEi_af (s : State) (v : Bool) : (s.setAfterEi v).af = s.af := rfl
@[simp] theorem State.setAfterEi_afShadow (s : State) (v : Bool) : (s.setAfterEi v).afShadow = s.afShadow := rfl
@[simp] theorem State.setAfterEi_f (s : State) (v : Bool) : (s.setAfterEi v).f = s.f := rfl
@[simp] theorem State.setAfterEi_get8 (s : State) (v : Bool) (r : Reg8) : (s.setAfterEi v).get8 r = s.get8 r := by cases r <;> rfl
@[simp] theorem State.setAfterEi_get16 (s : State) (v : Bool) (g : Reg16) : (s.setAfterEi v).get16 g = s.get16 g := by cases g <;> rfl
@[simp] theorem State.setAfterEi_getQ (s : State) (v : Bool) (q : RegQ) : (s.setAfterEi v).getQ q = s.getQ q := by cases q <;> rfl

@[simp] theorem State.setPending_gen (s : State) (v : BitVec 14) : (s.setPending v).gen = s.gen := rfl
@[simp] theorem State.setPending_genShadow (s : State) (v : BitVec 14) : (s.setPending v).genShadow = s.genShadow := rfl
@[simp] theorem State.setPending_af (s : State) (v : BitVec 14) : (s.setPending v).af = s.af := rfl
@[simp] theorem State.setPending_afShadow (s : State) (v : BitVec 14) : (s.setPending v).afShadow = s.afShadow := rfl
@[simp] theorem State.setPending_f (s : State) (v : BitVec 14) : (s.setPending v).f = s.f := rfl
@[simp] theorem State.setPending_get8 (s : State) (v : BitVec 14) (r : Reg8) : (s.setPending v).get8 r = s.get8 r := by cases r <;> rfl
@[simp] theorem State.setPending_get16 (s : State) (v : BitVec 14) (g : Reg16) : (s.setPending v).get16 g = s.get16 g := by cases g <;> rfl
@[simp] theorem State.setPending_getQ (s : State) (v : BitVec 14) (q : RegQ) : (s.setPending v).getQ q = s.getQ q := by cases q <;> rfl

@[simp] theorem State.setMask_gen (s : State) (v : BitVec 14) : (s.setMask v).gen = s.gen := rfl
@[simp] theorem State.setMask_genShadow (s : State) (v : BitVec 14) : (s.setMask v).genShadow = s.genShadow := rfl
@[simp] theorem State.setMask_af (s : State) (v : BitVec 14) : (s.setMask v).af = s.af := rfl
@[simp] theorem State.setMask_afShadow (s : State) (v : BitVec 14) : (s.setMask v).afShadow = s.afShadow := rfl
@[simp] theorem State.setMask_f (s : State) (v : BitVec 14) : (s.setMask v).f = s.f := rfl
@[simp] theorem State.setMask_get8 (s : State) (v : BitVec 14) (r : Reg8) : (s.setMask v).get8 r = s.get8 r := by cases r <;> rfl
@[simp] theorem State.setMask_get16 (s : State) (v : BitVec 14) (g : Reg16) : (s.setMask v).get16 g = s.get16 g := by cases g <;> rfl
@[simp] theorem State.setMask_getQ (s : State) (v : BitVec 14) (q : RegQ) : (s.setMask v).getQ q = s.getQ q := by cases q <;> rfl

@[simp] theorem State.setBankX_gen (s : State) (v : BitVec 4) : (s.setBankX v).gen = s.gen := rfl
@[simp] theorem State.setBankX_genShadow (s : State) (v : BitVec 4) : (s.setBankX v).genShadow = s.genShadow := rfl
@[simp] theorem State.setBankX_af (s : State) (v : BitVec 4) : (s.setBankX v).af = s.af := rfl
@[simp] theorem State.setBankX_afShadow (s : State) (v : BitVec 4) : (s.setBankX v).afShadow = s.afShadow := rfl
@[simp] theorem State.setBankX_f (s : State) (v : BitVec 4) : (s.setBankX v).f = s.f := rfl
@[simp] theorem State.setBankX_get8 (s : State) (v : BitVec 4) (r : Reg8) : (s.setBankX v).get8 r = s.get8 r := by cases r <;> rfl
@[simp] theorem State.setBankX_get16 (s : State) (v : BitVec 4) (g : Reg16) : (s.setBankX v).get16 g = s.get16 g := by cases g <;> rfl
@[simp] theorem State.setBankX_getQ (s : State) (v : BitVec 4) (q : RegQ) : (s.setBankX v).getQ q = s.getQ q := by cases q <;> rfl

@[simp] theorem State.setBankY_gen (s : State) (v : BitVec 4) : (s.setBankY v).gen = s.gen := rfl
@[simp] theorem State.setBankY_genShadow (s : State) (v : BitVec 4) : (s.setBankY v).genShadow = s.genShadow := rfl
@[simp] theorem State.setBankY_af (s : State) (v : BitVec 4) : (s.setBankY v).af = s.af := rfl
@[simp] theorem State.setBankY_afShadow (s : State) (v : BitVec 4) : (s.setBankY v).afShadow = s.afShadow := rfl
@[simp] theorem State.setBankY_f (s : State) (v : BitVec 4) : (s.setBankY v).f = s.f := rfl
@[simp] theorem State.setBankY_get8 (s : State) (v : BitVec 4) (r : Reg8) : (s.setBankY v).get8 r = s.get8 r := by cases r <;> rfl
@[simp] theorem State.setBankY_get16 (s : State) (v : BitVec 4) (g : Reg16) : (s.setBankY v).get16 g = s.get16 g := by cases g <;> rfl
@[simp] theorem State.setBankY_getQ (s : State) (v : BitVec 4) (q : RegQ) : (s.setBankY v).getQ q = s.getQ q := by cases q <;> rfl

@[simp] theorem State.setMem_gen (s : State) (v : Memory) : (s.setMem v).gen = s.gen := rfl
@[simp] theorem State.setMem_genShadow (s : State) (v : Memory) : (s.setMem v).genShadow = s.genShadow := rfl
@[simp] theorem State.setMem_af (s : State) (v : Memory) : (s.setMem v).af = s.af := rfl
@[simp] theorem State.setMem_afShadow (s : State) (v : Memory) : (s.setMem v).afShadow = s.afShadow := rfl
@[simp] theorem State.setMem_f (s : State) (v : Memory) : (s.setMem v).f = s.f := rfl
@[simp] theorem State.setMem_get8 (s : State) (v : Memory) (r : Reg8) : (s.setMem v).get8 r = s.get8 r := by cases r <;> rfl
@[simp] theorem State.setMem_get16 (s : State) (v : Memory) (g : Reg16) : (s.setMem v).get16 g = s.get16 g := by cases g <;> rfl
@[simp] theorem State.setMem_getQ (s : State) (v : Memory) (q : RegQ) : (s.setMem v).getQ q = s.getQ q := by cases q <;> rfl

@[simp] theorem State.setTimer16_gen (s : State) (v : Timer16) : (s.setTimer16 v).gen = s.gen := rfl
@[simp] theorem State.setTimer16_genShadow (s : State) (v : Timer16) : (s.setTimer16 v).genShadow = s.genShadow := rfl
@[simp] theorem State.setTimer16_af (s : State) (v : Timer16) : (s.setTimer16 v).af = s.af := rfl
@[simp] theorem State.setTimer16_afShadow (s : State) (v : Timer16) : (s.setTimer16 v).afShadow = s.afShadow := rfl
@[simp] theorem State.setTimer16_f (s : State) (v : Timer16) : (s.setTimer16 v).f = s.f := rfl
@[simp] theorem State.setTimer16_get8 (s : State) (v : Timer16) (r : Reg8) : (s.setTimer16 v).get8 r = s.get8 r := by cases r <;> rfl
@[simp] theorem State.setTimer16_get16 (s : State) (v : Timer16) (g : Reg16) : (s.setTimer16 v).get16 g = s.get16 g := by cases g <;> rfl
@[simp] theorem State.setTimer16_getQ (s : State) (v : Timer16) (q : RegQ) : (s.setTimer16 v).getQ q = s.getQ q := by cases q <;> rfl

@[simp] theorem State.setCost_gen (s : State) (v : Nat) : (s.setCost v).gen = s.gen := rfl
@[simp] theorem State.setCost_genShadow (s : State) (v : Nat) : (s.setCost v).genShadow = s.genShadow := rfl
@[simp] theorem State.setCost_af (s : State) (v : Nat) : (s.setCost v).af = s.af := rfl
@[simp] theorem State.setCost_afShadow (s : State) (v : Nat) : (s.setCost v).afShadow = s.afShadow := rfl
@[simp] theorem State.setCost_f (s : State) (v : Nat) : (s.setCost v).f = s.f := rfl
@[simp] theorem State.setCost_get8 (s : State) (v : Nat) (r : Reg8) : (s.setCost v).get8 r = s.get8 r := by cases r <;> rfl
@[simp] theorem State.setCost_get16 (s : State) (v : Nat) (g : Reg16) : (s.setCost v).get16 g = s.get16 g := by cases g <;> rfl
@[simp] theorem State.setCost_getQ (s : State) (v : Nat) (q : RegQ) : (s.setCost v).getQ q = s.getQ q := by cases q <;> rfl

@[simp] theorem State.setTimer8_gen (s : State) (i : Fin 4) (t : Timer8) : (s.setTimer8 i t).gen = s.gen := rfl
@[simp] theorem State.setTimer8_genShadow (s : State) (i : Fin 4) (t : Timer8) : (s.setTimer8 i t).genShadow = s.genShadow := rfl
@[simp] theorem State.setTimer8_af (s : State) (i : Fin 4) (t : Timer8) : (s.setTimer8 i t).af = s.af := rfl
@[simp] theorem State.setTimer8_afShadow (s : State) (i : Fin 4) (t : Timer8) : (s.setTimer8 i t).afShadow = s.afShadow := rfl
@[simp] theorem State.setTimer8_f (s : State) (i : Fin 4) (t : Timer8) : (s.setTimer8 i t).f = s.f := rfl
@[simp] theorem State.setTimer8_get8 (s : State) (i : Fin 4) (t : Timer8) (r : Reg8) : (s.setTimer8 i t).get8 r = s.get8 r := by cases r <;> rfl
@[simp] theorem State.setTimer8_get16 (s : State) (i : Fin 4) (t : Timer8) (g : Reg16) : (s.setTimer8 i t).get16 g = s.get16 g := by cases g <;> rfl
@[simp] theorem State.setTimer8_getQ (s : State) (i : Fin 4) (t : Timer8) (q : RegQ) : (s.setTimer8 i t).getQ q = s.getQ q := by cases q <;> rfl

@[simp] theorem State.portCall_gen (s : State) (n : Fin 9) (w : PortWire) (e : CallEvent) : (s.portCall n w e).gen = s.gen := rfl
@[simp] theorem State.portCall_genShadow (s : State) (n : Fin 9) (w : PortWire) (e : CallEvent) : (s.portCall n w e).genShadow = s.genShadow := rfl
@[simp] theorem State.portCall_af (s : State) (n : Fin 9) (w : PortWire) (e : CallEvent) : (s.portCall n w e).af = s.af := rfl
@[simp] theorem State.portCall_afShadow (s : State) (n : Fin 9) (w : PortWire) (e : CallEvent) : (s.portCall n w e).afShadow = s.afShadow := rfl
@[simp] theorem State.portCall_f (s : State) (n : Fin 9) (w : PortWire) (e : CallEvent) : (s.portCall n w e).f = s.f := rfl
@[simp] theorem State.portCall_get8 (s : State) (n : Fin 9) (w : PortWire) (e : CallEvent) (r : Reg8) : (s.portCall n w e).get8 r = s.get8 r := by cases r <;> rfl
@[simp] theorem State.portCall_get16 (s : State) (n : Fin 9) (w : PortWire) (e : CallEvent) (g : Reg16) : (s.portCall n w e).get16 g = s.get16 g := by cases g <;> rfl
@[simp] theorem State.portCall_getQ (s : State) (n : Fin 9) (w : PortWire) (e : CallEvent) (q : RegQ) : (s.portCall n w e).getQ q = s.getQ q := by cases q <;> rfl

@[simp] theorem State.busCall_gen (s : State) (b : List Byte) (e : CallEvent) : (s.busCall b e).gen = s.gen := rfl
@[simp] theorem State.busCall_genShadow (s : State) (b : List Byte) (e : CallEvent) : (s.busCall b e).genShadow = s.genShadow := rfl
@[simp] theorem State.busCall_af (s : State) (b : List Byte) (e : CallEvent) : (s.busCall b e).af = s.af := rfl
@[simp] theorem State.busCall_afShadow (s : State) (b : List Byte) (e : CallEvent) : (s.busCall b e).afShadow = s.afShadow := rfl
@[simp] theorem State.busCall_f (s : State) (b : List Byte) (e : CallEvent) : (s.busCall b e).f = s.f := rfl
@[simp] theorem State.busCall_get8 (s : State) (b : List Byte) (e : CallEvent) (r : Reg8) : (s.busCall b e).get8 r = s.get8 r := by cases r <;> rfl
@[simp] theorem State.busCall_get16 (s : State) (b : List Byte) (e : CallEvent) (g : Reg16) : (s.busCall b e).get16 g = s.get16 g := by cases g <;> rfl
@[simp] theorem State.busCall_getQ (s : State) (b : List Byte) (e : CallEvent) (q : RegQ) : (s.busCall b e).getQ q = s.getQ q := by cases q <;> rfl

@[simp] theorem State.takeFree_gen (s : State) : (s.takeFree).gen = s.gen := rfl
@[simp] theorem State.takeFree_genShadow (s : State) : (s.takeFree).genShadow = s.genShadow := rfl
@[simp] theorem State.takeFree_af (s : State) : (s.takeFree).af = s.af := rfl
@[simp] theorem State.takeFree_afShadow (s : State) : (s.takeFree).afShadow = s.afShadow := rfl
@[simp] theorem State.takeFree_f (s : State) : (s.takeFree).f = s.f := rfl
@[simp] theorem State.takeFree_get8 (s : State) (r : Reg8) : (s.takeFree).get8 r = s.get8 r := by cases r <;> rfl
@[simp] theorem State.takeFree_get16 (s : State) (g : Reg16) : (s.takeFree).get16 g = s.get16 g := by cases g <;> rfl
@[simp] theorem State.takeFree_getQ (s : State) (q : RegQ) : (s.takeFree).getQ q = s.getQ q := by cases q <;> rfl

@[simp] theorem State.setGen_gen (s : State) (g : GenBank) : (s.setGen g).gen = g := by
  unfold State.gen; cases h : s.gsel <;> simp [h]

@[simp] theorem State.setGen_genShadow (s : State) (g : GenBank) : (s.setGen g).genShadow = s.genShadow := by
  unfold State.genShadow; cases h : s.gsel <;> simp [h]

@[simp] theorem State.setGen_af (s : State) (g : GenBank) : (s.setGen g).af = s.af := rfl
@[simp] theorem State.setGen_afShadow (s : State) (g : GenBank) : (s.setGen g).afShadow = s.afShadow := rfl
@[simp] theorem State.setGen_f (s : State) (g : GenBank) : (s.setGen g).f = s.f := rfl

@[simp] theorem State.setAf_af (s : State) (w : Word) : (s.setAf w).af = w := by
  unfold State.af; cases h : s.asel <;> simp [h]

@[simp] theorem State.setAf_afShadow (s : State) (w : Word) : (s.setAf w).afShadow = s.afShadow := by
  unfold State.afShadow; cases h : s.asel <;> simp [h]

@[simp] theorem State.setAf_gen (s : State) (w : Word) : (s.setAf w).gen = s.gen := rfl
@[simp] theorem State.setAf_genShadow (s : State) (w : Word) : (s.setAf w).genShadow = s.genShadow := rfl
@[simp] theorem State.setAf_f (s : State) (w : Word) : (s.setAf w).f = loByte w := by simp [State.f]

@[simp] theorem State.swapGen_gen (s : State) : s.swapGen.gen = s.genShadow := by
  unfold State.gen State.genShadow; cases h : s.gsel <;> simp [h]

@[simp] theorem State.swapGen_genShadow (s : State) : s.swapGen.genShadow = s.gen := by
  unfold State.gen State.genShadow; cases h : s.gsel <;> simp [h]

@[simp] theorem State.swapGen_af (s : State) : s.swapGen.af = s.af := rfl
@[simp] theorem State.swapGen_afShadow (s : State) : s.swapGen.afShadow = s.afShadow := rfl
@[simp] theorem State.swapGen_f (s : State) : s.swapGen.f = s.f := rfl

@[simp] theorem State.swapAf_af (s : State) : s.swapAf.af = s.afShadow := by
  unfold State.af State.afShadow; cases h : s.asel <;> simp [h]

@[simp] theorem State.swapAf_afShadow (s : State) : s.swapAf.afShadow = s.af := by
  unfold State.af State.afShadow; cases h : s.asel <;> simp [h]

@[simp] theorem State.swapAf_f (s : State) : s.swapAf.f = loByte s.afShadow := by simp [State.f]
@[simp] theorem State.swapAf_gen (s : State) : s.swapAf.gen = s.gen := rfl
@[simp] theorem State.swapAf_genShadow (s : State) : s.swapAf.genShadow = s.genShadow := rfl

/-- Exchanged twice, the general banks are as they were (40 R147). -/
@[simp] theorem State.swapGen_swapGen (s : State) : s.swapGen.swapGen = s := by simp [State.swapGen]

/-- Exchanged twice, the AF banks are as they were (40 R146). -/
@[simp] theorem State.swapAf_swapAf (s : State) : s.swapAf.swapAf = s := by simp [State.swapAf]

/-! ### The halves of a word -/

@[simp] theorem loByte_joinBytes (hi lo : Byte) : loByte (joinBytes hi lo) = lo := by
  unfold loByte joinBytes
  ext i h
  rw [BitVec.getElem_extractLsb', BitVec.getLsbD_append (x := hi) (y := lo)]
  simp [h]

@[simp] theorem hiByte_joinBytes (hi lo : Byte) : hiByte (joinBytes hi lo) = hi := by
  unfold hiByte joinBytes
  ext i h
  rw [BitVec.getElem_extractLsb', BitVec.getLsbD_append (x := hi) (y := lo)]
  simp [h]

@[simp] theorem joinBytes_hiByte_loByte (w : Word) : joinBytes (hiByte w) (loByte w) = w := by
  unfold hiByte loByte joinBytes
  ext i h
  simp only [BitVec.getElem_append, BitVec.getElem_extractLsb']
  split
  · simp; rfl
  · rw [show 8 + (i - 8) = i by omega]; rfl

/-! ### Registers after a register write -/

@[simp] theorem State.setF_f (s : State) (v : Byte) : (s.setF v).f = v := by simp [State.setF]
@[simp] theorem State.setF_gen (s : State) (v : Byte) : (s.setF v).gen = s.gen := rfl
@[simp] theorem State.setF_genShadow (s : State) (v : Byte) : (s.setF v).genShadow = s.genShadow := rfl
@[simp] theorem State.setF_af (s : State) (v : Byte) : (s.setF v).af = joinBytes (hiByte s.af) v := by simp [State.setF]
@[simp] theorem State.setF_afShadow (s : State) (v : Byte) : (s.setF v).afShadow = s.afShadow := by simp [State.setF]

@[simp] theorem State.setF_get8 (s : State) (v : Byte) (r : Reg8) : (s.setF v).get8 r = s.get8 r := by
  cases r <;> simp [State.get8]

@[simp] theorem State.setF_get16 (s : State) (v : Byte) (g : Reg16) : (s.setF v).get16 g = s.get16 g := by
  cases g <;> rfl

@[simp] theorem State.set8_get8 (s : State) (r q : Reg8) (v : Byte) :
    (s.set8 r v).get8 q = if q = r then v else s.get8 q := by
  cases r <;> cases q <;> simp [State.set8, State.get8]

@[simp] theorem State.set8_f (s : State) (r : Reg8) (v : Byte) : (s.set8 r v).f = s.f := by
  cases r <;> simp [State.set8, State.f]

@[simp] theorem State.set8_genShadow (s : State) (r : Reg8) (v : Byte) : (s.set8 r v).genShadow = s.genShadow := by
  cases r <;> simp [State.set8]

@[simp] theorem State.set8_afShadow (s : State) (r : Reg8) (v : Byte) : (s.set8 r v).afShadow = s.afShadow := by
  cases r <;> simp [State.set8]

@[simp] theorem State.set8_get16 (s : State) (x : RegX) (r : Reg8) (v : Byte) :
    (s.set8 r v).get16 (RegX.reg16 x) = s.get16 (RegX.reg16 x) := by
  cases x <;> cases r <;> rfl

@[simp] theorem State.set16_get16 (s : State) (g h : Reg16) (w : Word) :
    (s.set16 g w).get16 h = if h = g then w else s.get16 h := by
  cases g <;> cases h <;> simp [State.set16, State.get16]

@[simp] theorem State.set16_f (s : State) (g : Reg16) (w : Word) : (s.set16 g w).f = s.f := by
  cases g <;> rfl

@[simp] theorem State.set16_genShadow (s : State) (g : Reg16) (w : Word) : (s.set16 g w).genShadow = s.genShadow := by
  cases g <;> simp [State.set16]

@[simp] theorem State.set16_afShadow (s : State) (g : Reg16) (w : Word) : (s.set16 g w).afShadow = s.afShadow := by
  cases g <;> rfl

/-- The halves after a write of a pair: the pair's own two halves are the word's, the others are kept. -/
theorem State.set16_get8 (s : State) (g : Reg16) (w : Word) (r : Reg8) :
    (s.set16 g w).get8 r =
      match g, r with
      | .bc, .b => hiByte w
      | .bc, .c => loByte w
      | .de, .d => hiByte w
      | .de, .e => loByte w
      | .hl, .h => hiByte w
      | .hl, .l => loByte w
      | _, _ => s.get8 r := by
  cases g <;> cases r <;> simp [State.set16, State.get8]

/-! ### Fields after a register write by name -/

@[simp] theorem State.set8_gsel (s : State) (r : Reg8) (v : Byte) : (s.set8 r v).gsel = s.gsel := by cases r <;> rfl
@[simp] theorem State.set8_asel (s : State) (r : Reg8) (v : Byte) : (s.set8 r v).asel = s.asel := by cases r <;> rfl
@[simp] theorem State.set8_ix (s : State) (r : Reg8) (v : Byte) : (s.set8 r v).ix = s.ix := by cases r <;> rfl
@[simp] theorem State.set8_iy (s : State) (r : Reg8) (v : Byte) : (s.set8 r v).iy = s.iy := by cases r <;> rfl
@[simp] theorem State.set8_sp (s : State) (r : Reg8) (v : Byte) : (s.set8 r v).sp = s.sp := by cases r <;> rfl
@[simp] theorem State.set8_pc (s : State) (r : Reg8) (v : Byte) : (s.set8 r v).pc = s.pc := by cases r <;> rfl
@[simp] theorem State.set8_halted (s : State) (r : Reg8) (v : Byte) : (s.set8 r v).halted = s.halted := by cases r <;> rfl
@[simp] theorem State.set8_afterEi (s : State) (r : Reg8) (v : Byte) : (s.set8 r v).afterEi = s.afterEi := by cases r <;> rfl
@[simp] theorem State.set8_residual (s : State) (r : Reg8) (v : Byte) : (s.set8 r v).residual = s.residual := by cases r <;> rfl
@[simp] theorem State.set8_pending (s : State) (r : Reg8) (v : Byte) : (s.set8 r v).pending = s.pending := by cases r <;> rfl
@[simp] theorem State.set8_mask (s : State) (r : Reg8) (v : Byte) : (s.set8 r v).mask = s.mask := by cases r <;> rfl
@[simp] theorem State.set8_line (s : State) (r : Reg8) (v : Byte) : (s.set8 r v).line = s.line := by cases r <;> rfl
@[simp] theorem State.set8_t0 (s : State) (r : Reg8) (v : Byte) : (s.set8 r v).t0 = s.t0 := by cases r <;> rfl
@[simp] theorem State.set8_t1 (s : State) (r : Reg8) (v : Byte) : (s.set8 r v).t1 = s.t1 := by cases r <;> rfl
@[simp] theorem State.set8_t2 (s : State) (r : Reg8) (v : Byte) : (s.set8 r v).t2 = s.t2 := by cases r <;> rfl
@[simp] theorem State.set8_t3 (s : State) (r : Reg8) (v : Byte) : (s.set8 r v).t3 = s.t3 := by cases r <;> rfl
@[simp] theorem State.set8_t4 (s : State) (r : Reg8) (v : Byte) : (s.set8 r v).t4 = s.t4 := by cases r <;> rfl
@[simp] theorem State.set8_bankX (s : State) (r : Reg8) (v : Byte) : (s.set8 r v).bankX = s.bankX := by cases r <;> rfl
@[simp] theorem State.set8_bankY (s : State) (r : Reg8) (v : Byte) : (s.set8 r v).bankY = s.bankY := by cases r <;> rfl
@[simp] theorem State.set8_mem (s : State) (r : Reg8) (v : Byte) : (s.set8 r v).mem = s.mem := by cases r <;> rfl
@[simp] theorem State.set8_busAnswers (s : State) (r : Reg8) (v : Byte) : (s.set8 r v).busAnswers = s.busAnswers := by cases r <;> rfl
@[simp] theorem State.set8_ports (s : State) (r : Reg8) (v : Byte) : (s.set8 r v).ports = s.ports := by cases r <;> rfl
@[simp] theorem State.set8_callLog (s : State) (r : Reg8) (v : Byte) : (s.set8 r v).callLog = s.callLog := by cases r <;> rfl
@[simp] theorem State.set8_cost (s : State) (r : Reg8) (v : Byte) : (s.set8 r v).cost = s.cost := by cases r <;> rfl
@[simp] theorem State.set8_freeCount (s : State) (r : Reg8) (v : Byte) : (s.set8 r v).freeCount = s.freeCount := by cases r <;> rfl
@[simp] theorem State.set8_cfg (s : State) (r : Reg8) (v : Byte) : (s.set8 r v).cfg = s.cfg := by cases r <;> rfl

@[simp] theorem State.setF_gbank0 (s : State) (v : Byte) : (s.setF v).gbank0 = s.gbank0 := rfl
@[simp] theorem State.setF_gbank1 (s : State) (v : Byte) : (s.setF v).gbank1 = s.gbank1 := rfl
@[simp] theorem State.setF_gsel (s : State) (v : Byte) : (s.setF v).gsel = s.gsel := rfl
@[simp] theorem State.setF_asel (s : State) (v : Byte) : (s.setF v).asel = s.asel := rfl
@[simp] theorem State.setF_ix (s : State) (v : Byte) : (s.setF v).ix = s.ix := rfl
@[simp] theorem State.setF_iy (s : State) (v : Byte) : (s.setF v).iy = s.iy := rfl
@[simp] theorem State.setF_sp (s : State) (v : Byte) : (s.setF v).sp = s.sp := rfl
@[simp] theorem State.setF_pc (s : State) (v : Byte) : (s.setF v).pc = s.pc := rfl
@[simp] theorem State.setF_halted (s : State) (v : Byte) : (s.setF v).halted = s.halted := rfl
@[simp] theorem State.setF_afterEi (s : State) (v : Byte) : (s.setF v).afterEi = s.afterEi := rfl
@[simp] theorem State.setF_residual (s : State) (v : Byte) : (s.setF v).residual = s.residual := rfl
@[simp] theorem State.setF_pending (s : State) (v : Byte) : (s.setF v).pending = s.pending := rfl
@[simp] theorem State.setF_mask (s : State) (v : Byte) : (s.setF v).mask = s.mask := rfl
@[simp] theorem State.setF_line (s : State) (v : Byte) : (s.setF v).line = s.line := rfl
@[simp] theorem State.setF_t0 (s : State) (v : Byte) : (s.setF v).t0 = s.t0 := rfl
@[simp] theorem State.setF_t1 (s : State) (v : Byte) : (s.setF v).t1 = s.t1 := rfl
@[simp] theorem State.setF_t2 (s : State) (v : Byte) : (s.setF v).t2 = s.t2 := rfl
@[simp] theorem State.setF_t3 (s : State) (v : Byte) : (s.setF v).t3 = s.t3 := rfl
@[simp] theorem State.setF_t4 (s : State) (v : Byte) : (s.setF v).t4 = s.t4 := rfl
@[simp] theorem State.setF_bankX (s : State) (v : Byte) : (s.setF v).bankX = s.bankX := rfl
@[simp] theorem State.setF_bankY (s : State) (v : Byte) : (s.setF v).bankY = s.bankY := rfl
@[simp] theorem State.setF_mem (s : State) (v : Byte) : (s.setF v).mem = s.mem := rfl
@[simp] theorem State.setF_busAnswers (s : State) (v : Byte) : (s.setF v).busAnswers = s.busAnswers := rfl
@[simp] theorem State.setF_ports (s : State) (v : Byte) : (s.setF v).ports = s.ports := rfl
@[simp] theorem State.setF_callLog (s : State) (v : Byte) : (s.setF v).callLog = s.callLog := rfl
@[simp] theorem State.setF_cost (s : State) (v : Byte) : (s.setF v).cost = s.cost := rfl
@[simp] theorem State.setF_freeCount (s : State) (v : Byte) : (s.setF v).freeCount = s.freeCount := rfl
@[simp] theorem State.setF_cfg (s : State) (v : Byte) : (s.setF v).cfg = s.cfg := rfl

@[simp] theorem State.set16_gsel (s : State) (g : Reg16) (w : Word) : (s.set16 g w).gsel = s.gsel := by cases g <;> rfl
@[simp] theorem State.set16_afbank0 (s : State) (g : Reg16) (w : Word) : (s.set16 g w).afbank0 = s.afbank0 := by cases g <;> rfl
@[simp] theorem State.set16_afbank1 (s : State) (g : Reg16) (w : Word) : (s.set16 g w).afbank1 = s.afbank1 := by cases g <;> rfl
@[simp] theorem State.set16_asel (s : State) (g : Reg16) (w : Word) : (s.set16 g w).asel = s.asel := by cases g <;> rfl
@[simp] theorem State.set16_pc (s : State) (g : Reg16) (w : Word) : (s.set16 g w).pc = s.pc := by cases g <;> rfl
@[simp] theorem State.set16_halted (s : State) (g : Reg16) (w : Word) : (s.set16 g w).halted = s.halted := by cases g <;> rfl
@[simp] theorem State.set16_afterEi (s : State) (g : Reg16) (w : Word) : (s.set16 g w).afterEi = s.afterEi := by cases g <;> rfl
@[simp] theorem State.set16_residual (s : State) (g : Reg16) (w : Word) : (s.set16 g w).residual = s.residual := by cases g <;> rfl
@[simp] theorem State.set16_pending (s : State) (g : Reg16) (w : Word) : (s.set16 g w).pending = s.pending := by cases g <;> rfl
@[simp] theorem State.set16_mask (s : State) (g : Reg16) (w : Word) : (s.set16 g w).mask = s.mask := by cases g <;> rfl
@[simp] theorem State.set16_line (s : State) (g : Reg16) (w : Word) : (s.set16 g w).line = s.line := by cases g <;> rfl
@[simp] theorem State.set16_t0 (s : State) (g : Reg16) (w : Word) : (s.set16 g w).t0 = s.t0 := by cases g <;> rfl
@[simp] theorem State.set16_t1 (s : State) (g : Reg16) (w : Word) : (s.set16 g w).t1 = s.t1 := by cases g <;> rfl
@[simp] theorem State.set16_t2 (s : State) (g : Reg16) (w : Word) : (s.set16 g w).t2 = s.t2 := by cases g <;> rfl
@[simp] theorem State.set16_t3 (s : State) (g : Reg16) (w : Word) : (s.set16 g w).t3 = s.t3 := by cases g <;> rfl
@[simp] theorem State.set16_t4 (s : State) (g : Reg16) (w : Word) : (s.set16 g w).t4 = s.t4 := by cases g <;> rfl
@[simp] theorem State.set16_bankX (s : State) (g : Reg16) (w : Word) : (s.set16 g w).bankX = s.bankX := by cases g <;> rfl
@[simp] theorem State.set16_bankY (s : State) (g : Reg16) (w : Word) : (s.set16 g w).bankY = s.bankY := by cases g <;> rfl
@[simp] theorem State.set16_mem (s : State) (g : Reg16) (w : Word) : (s.set16 g w).mem = s.mem := by cases g <;> rfl
@[simp] theorem State.set16_busAnswers (s : State) (g : Reg16) (w : Word) : (s.set16 g w).busAnswers = s.busAnswers := by cases g <;> rfl
@[simp] theorem State.set16_ports (s : State) (g : Reg16) (w : Word) : (s.set16 g w).ports = s.ports := by cases g <;> rfl
@[simp] theorem State.set16_callLog (s : State) (g : Reg16) (w : Word) : (s.set16 g w).callLog = s.callLog := by cases g <;> rfl
@[simp] theorem State.set16_cost (s : State) (g : Reg16) (w : Word) : (s.set16 g w).cost = s.cost := by cases g <;> rfl
@[simp] theorem State.set16_freeCount (s : State) (g : Reg16) (w : Word) : (s.set16 g w).freeCount = s.freeCount := by cases g <;> rfl
@[simp] theorem State.set16_cfg (s : State) (g : Reg16) (w : Word) : (s.set16 g w).cfg = s.cfg := by cases g <;> rfl

@[simp] theorem State.setQ_gsel (s : State) (q : RegQ) (w : Word) : (s.setQ q w).gsel = s.gsel := by cases q <;> rfl
@[simp] theorem State.setQ_asel (s : State) (q : RegQ) (w : Word) : (s.setQ q w).asel = s.asel := by cases q <;> rfl
@[simp] theorem State.setQ_sp (s : State) (q : RegQ) (w : Word) : (s.setQ q w).sp = s.sp := by cases q <;> rfl
@[simp] theorem State.setQ_pc (s : State) (q : RegQ) (w : Word) : (s.setQ q w).pc = s.pc := by cases q <;> rfl
@[simp] theorem State.setQ_halted (s : State) (q : RegQ) (w : Word) : (s.setQ q w).halted = s.halted := by cases q <;> rfl
@[simp] theorem State.setQ_afterEi (s : State) (q : RegQ) (w : Word) : (s.setQ q w).afterEi = s.afterEi := by cases q <;> rfl
@[simp] theorem State.setQ_residual (s : State) (q : RegQ) (w : Word) : (s.setQ q w).residual = s.residual := by cases q <;> rfl
@[simp] theorem State.setQ_pending (s : State) (q : RegQ) (w : Word) : (s.setQ q w).pending = s.pending := by cases q <;> rfl
@[simp] theorem State.setQ_mask (s : State) (q : RegQ) (w : Word) : (s.setQ q w).mask = s.mask := by cases q <;> rfl
@[simp] theorem State.setQ_line (s : State) (q : RegQ) (w : Word) : (s.setQ q w).line = s.line := by cases q <;> rfl
@[simp] theorem State.setQ_t0 (s : State) (q : RegQ) (w : Word) : (s.setQ q w).t0 = s.t0 := by cases q <;> rfl
@[simp] theorem State.setQ_t1 (s : State) (q : RegQ) (w : Word) : (s.setQ q w).t1 = s.t1 := by cases q <;> rfl
@[simp] theorem State.setQ_t2 (s : State) (q : RegQ) (w : Word) : (s.setQ q w).t2 = s.t2 := by cases q <;> rfl
@[simp] theorem State.setQ_t3 (s : State) (q : RegQ) (w : Word) : (s.setQ q w).t3 = s.t3 := by cases q <;> rfl
@[simp] theorem State.setQ_t4 (s : State) (q : RegQ) (w : Word) : (s.setQ q w).t4 = s.t4 := by cases q <;> rfl
@[simp] theorem State.setQ_bankX (s : State) (q : RegQ) (w : Word) : (s.setQ q w).bankX = s.bankX := by cases q <;> rfl
@[simp] theorem State.setQ_bankY (s : State) (q : RegQ) (w : Word) : (s.setQ q w).bankY = s.bankY := by cases q <;> rfl
@[simp] theorem State.setQ_mem (s : State) (q : RegQ) (w : Word) : (s.setQ q w).mem = s.mem := by cases q <;> rfl
@[simp] theorem State.setQ_busAnswers (s : State) (q : RegQ) (w : Word) : (s.setQ q w).busAnswers = s.busAnswers := by cases q <;> rfl
@[simp] theorem State.setQ_ports (s : State) (q : RegQ) (w : Word) : (s.setQ q w).ports = s.ports := by cases q <;> rfl
@[simp] theorem State.setQ_callLog (s : State) (q : RegQ) (w : Word) : (s.setQ q w).callLog = s.callLog := by cases q <;> rfl
@[simp] theorem State.setQ_cost (s : State) (q : RegQ) (w : Word) : (s.setQ q w).cost = s.cost := by cases q <;> rfl
@[simp] theorem State.setQ_freeCount (s : State) (q : RegQ) (w : Word) : (s.setQ q w).freeCount = s.freeCount := by cases q <;> rfl
@[simp] theorem State.setQ_cfg (s : State) (q : RegQ) (w : Word) : (s.setQ q w).cfg = s.cfg := by cases q <;> rfl

end Sys2Proof.Machine
end

