-- ==== Sys2Proof/Laws/Memory.lean ====
section
/-! SUPPORT. The memory behind the adapter: a write keeps the canonical form, reads back, and leaves every other address
alone; the memory after reset has the canonical form. -/

namespace Sys2Proof.Machine

/-- What the canonical form says of a first entry. -/
theorem cellsWf_cons {lo k : Nat} {v : Byte} {rest : List Host.Cell} :
    cellsWf lo ((k, v) :: rest) = true ↔ lo ≤ k ∧ k < 2 ^ 20 ∧ cellsWf (k + 1) rest = true := by
  simp [cellsWf, and_assoc]

/-- A canonical list that starts above a bound also starts above a lower one. -/
theorem cellsWf_mono {lo hi : Nat} {l : List Host.Cell} (h : lo ≤ hi) (wf : cellsWf hi l = true) :
    cellsWf lo l = true := by
  cases l with
  | nil => rfl
  | cons c rest =>
    obtain ⟨h1, h2, h3⟩ := cellsWf_cons.mp wf
    exact cellsWf_cons.mpr ⟨by omega, h2, h3⟩

/-- Writing keeps the canonical form. -/
theorem writeCells_wf {lo a : Nat} {v : Byte} {l : List Host.Cell} (wf : cellsWf lo l = true) (h : lo ≤ a)
    (top : a < 2 ^ 20) : cellsWf lo (writeCells l a v) = true := by
  induction l generalizing lo with
  | nil => exact cellsWf_cons.mpr ⟨h, top, rfl⟩
  | cons c rest ih =>
    obtain ⟨h1, h2, h3⟩ := cellsWf_cons.mp wf
    simp only [writeCells]
    split
    · exact cellsWf_cons.mpr ⟨h, top, cellsWf_cons.mpr ⟨by omega, h2, h3⟩⟩
    · split
      · exact cellsWf_cons.mpr ⟨h, top, cellsWf_mono (by omega) h3⟩
      · exact cellsWf_cons.mpr ⟨h1, h2, ih h3 (by omega)⟩

/-- What an address reads after a write. -/
theorem readCells_writeCells {a : Nat} {v : Byte} {l : List Host.Cell} (b : Nat) :
    readCells (writeCells l a v) b = if b = a then v else readCells l b := by
  induction l with
  | nil => simp only [writeCells, readCells]
  | cons c rest ih =>
    simp only [writeCells]
    split
    · simp only [readCells]
    · split
      · subst a
        simp only [readCells]
        split <;> rfl
      · simp only [readCells, ih]
        split
        · rw [if_neg (by omega)]
        · rfl

/-- Writing a byte keeps the canonical form. -/
theorem Memory.write_wf {m : Memory} (wf : m.wf = true) (a : Addr) (v : Byte) : (m.write a v).wf = true :=
  writeCells_wf wf (Nat.zero_le _) a.isLt

/-- A read after a write: the byte written at that address, what it was at every other. -/
theorem Memory.read_write (m : Memory) (a b : Addr) (v : Byte) :
    (m.write a v).read b = if b = a then v else m.read b := by
  unfold Memory.read Memory.write
  rw [readCells_writeCells]
  simp [BitVec.toNat_inj]

/-- Storing an instruction's bytes keeps the canonical form. -/
theorem placeBytes_wf {m : Memory} (bs : List Byte) (a : Word) (wf : m.wf = true) : (placeBytes bs a m).wf = true := by
  induction bs generalizing a m with
  | nil => exact wf
  | cons b bs ih => exact ih _ (Memory.write_wf wf _ _)

/-- The memory after reset has the canonical form. -/
theorem reset_mem_wf : State.reset.mem.wf = true := rfl

end Sys2Proof.Machine
end

