-- ==== Sys2Proof/Laws/Ops.lean ====
section
/-! SUPPORT. What each shared access can do, said once: reads change nothing but what stands outside, writes nothing but memory and
control registers; both commute with register writes. The provers cite these and unfold no access. -/

namespace Sys2Proof.Machine

/-! ### Reads -/

/-- A port read changes nothing but what stands outside the core. -/
theorem readPort_state (n : Fin 9) (s : State) :
    ∃ b p l, (readPort n s).2 = { s with busAnswers := b, ports := p, callLog := l } := by
  unfold readPort
  split
  · exact ⟨_, _, _, rfl⟩
  · exact ⟨_, _, _, rfl⟩
  · exact ⟨_, _, _, rfl⟩

/-- A control register read changes nothing but what stands outside the core. -/
theorem ioRead_state (r : IoReg) (s : State) : ∃ b p l, (ioRead r s).2 = { s with busAnswers := b, ports := p, callLog := l } := by
  cases r with
  | port n => exact readPort_state n s
  | _ => exact ⟨s.busAnswers, s.ports, s.callLog, rfl⟩

/-- An adapter read changes nothing but the device's coming answers and the calls made. -/
theorem memRead8_state (a : Addr) (s : State) :
    ∃ b p l, (memRead8 a s).2 = { s with busAnswers := b, ports := p, callLog := l } := by
  unfold memRead8
  split
  · split
    · exact ⟨_, s.ports, _, rfl⟩
    · exact ⟨_, s.ports, _, rfl⟩
  · exact ⟨s.busAnswers, s.ports, s.callLog, rfl⟩

/-- A byte read changes nothing but what stands outside the core. -/
theorem read8_state (a : Addr) (s : State) : ∃ b p l, (read8 a s).2 = { s with busAnswers := b, ports := p, callLog := l } := by
  unfold read8
  split
  · exact ioRead_state _ _
  · exact memRead8_state _ _

/-- A word read changes nothing but what stands outside the core. -/
theorem read16_state (a : Addr) (s : State) : ∃ b p l, (read16 a s).2 = { s with busAnswers := b, ports := p, callLog := l } := by
  obtain ⟨b, p, l, h⟩ := read8_state a s
  obtain ⟨b', p', l', h'⟩ := read8_state (nextAddr a) (read8 a s).2
  exact ⟨b', p', l', by unfold read16; simp only; rw [h', h]⟩

/-- A read of an address that holds a byte answers it and changes nothing (R62). -/
theorem read8_holdsByte {a : Addr} {s : State} (h : s.holdsByte a = true) : read8 a s = (s.mem.read a, s) := by
  simp only [State.holdsByte, Bool.and_eq_true, Option.isNone_iff_eq_none, bne_iff_ne, ne_eq] at h
  simp only [read8, h.1, memRead8]
  split
  · exact absurd ‹_› h.2
  · rfl

/-- An address that keeps bytes also answers them. -/
theorem State.holdsByte_of_keepsByte {a : Addr} {s : State} (h : s.keepsByte a = true) : s.holdsByte a = true := by
  simp only [State.keepsByte, Bool.and_eq_true, beq_iff_eq] at h
  simp [State.holdsByte, h.1, h.2]

/-- A write of an address that keeps bytes is a write of memory (R62). -/
theorem write8_keepsByte {a : Addr} {s : State} (h : s.keepsByte a = true) (v : Byte) :
    write8 a v s = s.setMem (s.mem.write a v) := by
  simp only [State.keepsByte, Bool.and_eq_true, Option.isNone_iff_eq_none, beq_iff_eq] at h
  simp only [write8, h.1, memWrite8, h.2]

@[simp] theorem read8_gbank0 (a : Addr) (s : State) : (read8 a s).2.gbank0 = s.gbank0 := by
  obtain ⟨b, p, l, h⟩ := read8_state a s; rw [h]
@[simp] theorem read8_gbank1 (a : Addr) (s : State) : (read8 a s).2.gbank1 = s.gbank1 := by
  obtain ⟨b, p, l, h⟩ := read8_state a s; rw [h]
@[simp] theorem read8_gsel (a : Addr) (s : State) : (read8 a s).2.gsel = s.gsel := by
  obtain ⟨b, p, l, h⟩ := read8_state a s; rw [h]
@[simp] theorem read8_afbank0 (a : Addr) (s : State) : (read8 a s).2.afbank0 = s.afbank0 := by
  obtain ⟨b, p, l, h⟩ := read8_state a s; rw [h]
@[simp] theorem read8_afbank1 (a : Addr) (s : State) : (read8 a s).2.afbank1 = s.afbank1 := by
  obtain ⟨b, p, l, h⟩ := read8_state a s; rw [h]
@[simp] theorem read8_asel (a : Addr) (s : State) : (read8 a s).2.asel = s.asel := by
  obtain ⟨b, p, l, h⟩ := read8_state a s; rw [h]
@[simp] theorem read8_ix (a : Addr) (s : State) : (read8 a s).2.ix = s.ix := by
  obtain ⟨b, p, l, h⟩ := read8_state a s; rw [h]
@[simp] theorem read8_iy (a : Addr) (s : State) : (read8 a s).2.iy = s.iy := by
  obtain ⟨b, p, l, h⟩ := read8_state a s; rw [h]
@[simp] theorem read8_sp (a : Addr) (s : State) : (read8 a s).2.sp = s.sp := by
  obtain ⟨b, p, l, h⟩ := read8_state a s; rw [h]
@[simp] theorem read8_pc (a : Addr) (s : State) : (read8 a s).2.pc = s.pc := by
  obtain ⟨b, p, l, h⟩ := read8_state a s; rw [h]
@[simp] theorem read8_halted (a : Addr) (s : State) : (read8 a s).2.halted = s.halted := by
  obtain ⟨b, p, l, h⟩ := read8_state a s; rw [h]
@[simp] theorem read8_afterEi (a : Addr) (s : State) : (read8 a s).2.afterEi = s.afterEi := by
  obtain ⟨b, p, l, h⟩ := read8_state a s; rw [h]
@[simp] theorem read8_residual (a : Addr) (s : State) : (read8 a s).2.residual = s.residual := by
  obtain ⟨b, p, l, h⟩ := read8_state a s; rw [h]
@[simp] theorem read8_pending (a : Addr) (s : State) : (read8 a s).2.pending = s.pending := by
  obtain ⟨b, p, l, h⟩ := read8_state a s; rw [h]
@[simp] theorem read8_mask (a : Addr) (s : State) : (read8 a s).2.mask = s.mask := by
  obtain ⟨b, p, l, h⟩ := read8_state a s; rw [h]
@[simp] theorem read8_line (a : Addr) (s : State) : (read8 a s).2.line = s.line := by
  obtain ⟨b, p, l, h⟩ := read8_state a s; rw [h]
@[simp] theorem read8_t0 (a : Addr) (s : State) : (read8 a s).2.t0 = s.t0 := by
  obtain ⟨b, p, l, h⟩ := read8_state a s; rw [h]
@[simp] theorem read8_t1 (a : Addr) (s : State) : (read8 a s).2.t1 = s.t1 := by
  obtain ⟨b, p, l, h⟩ := read8_state a s; rw [h]
@[simp] theorem read8_t2 (a : Addr) (s : State) : (read8 a s).2.t2 = s.t2 := by
  obtain ⟨b, p, l, h⟩ := read8_state a s; rw [h]
@[simp] theorem read8_t3 (a : Addr) (s : State) : (read8 a s).2.t3 = s.t3 := by
  obtain ⟨b, p, l, h⟩ := read8_state a s; rw [h]
@[simp] theorem read8_t4 (a : Addr) (s : State) : (read8 a s).2.t4 = s.t4 := by
  obtain ⟨b, p, l, h⟩ := read8_state a s; rw [h]
@[simp] theorem read8_bankX (a : Addr) (s : State) : (read8 a s).2.bankX = s.bankX := by
  obtain ⟨b, p, l, h⟩ := read8_state a s; rw [h]
@[simp] theorem read8_bankY (a : Addr) (s : State) : (read8 a s).2.bankY = s.bankY := by
  obtain ⟨b, p, l, h⟩ := read8_state a s; rw [h]
@[simp] theorem read8_mem (a : Addr) (s : State) : (read8 a s).2.mem = s.mem := by
  obtain ⟨b, p, l, h⟩ := read8_state a s; rw [h]
@[simp] theorem read8_cost (a : Addr) (s : State) : (read8 a s).2.cost = s.cost := by
  obtain ⟨b, p, l, h⟩ := read8_state a s; rw [h]
@[simp] theorem read8_freeCount (a : Addr) (s : State) : (read8 a s).2.freeCount = s.freeCount := by
  obtain ⟨b, p, l, h⟩ := read8_state a s; rw [h]
@[simp] theorem read8_cfg (a : Addr) (s : State) : (read8 a s).2.cfg = s.cfg := by
  obtain ⟨b, p, l, h⟩ := read8_state a s; rw [h]
@[simp] theorem read8_gen (a : Addr) (s : State) : (read8 a s).2.gen = s.gen := by
  obtain ⟨b, p, l, h⟩ := read8_state a s; rw [h]; rfl
@[simp] theorem read8_genShadow (a : Addr) (s : State) : (read8 a s).2.genShadow = s.genShadow := by
  obtain ⟨b, p, l, h⟩ := read8_state a s; rw [h]; rfl
@[simp] theorem read8_af (a : Addr) (s : State) : (read8 a s).2.af = s.af := by
  obtain ⟨b, p, l, h⟩ := read8_state a s; rw [h]; rfl
@[simp] theorem read8_afShadow (a : Addr) (s : State) : (read8 a s).2.afShadow = s.afShadow := by
  obtain ⟨b, p, l, h⟩ := read8_state a s; rw [h]; rfl
@[simp] theorem read8_f (a : Addr) (s : State) : (read8 a s).2.f = s.f := by
  obtain ⟨b, p, l, h⟩ := read8_state a s; rw [h]; rfl
@[simp] theorem read8_get8 (a : Addr) (s : State) (r : Reg8) : (read8 a s).2.get8 r = s.get8 r := by
  obtain ⟨b, p, l, h⟩ := read8_state a s; rw [h]; cases r <;> rfl
@[simp] theorem read8_get16 (a : Addr) (s : State) (g : Reg16) : (read8 a s).2.get16 g = s.get16 g := by
  obtain ⟨b, p, l, h⟩ := read8_state a s; rw [h]; cases g <;> rfl
@[simp] theorem read8_getQ (a : Addr) (s : State) (q : RegQ) : (read8 a s).2.getQ q = s.getQ q := by
  obtain ⟨b, p, l, h⟩ := read8_state a s; rw [h]; cases q <;> rfl

@[simp] theorem read16_gbank0 (a : Addr) (s : State) : (read16 a s).2.gbank0 = s.gbank0 := by
  obtain ⟨b, p, l, h⟩ := read16_state a s; rw [h]
@[simp] theorem read16_gbank1 (a : Addr) (s : State) : (read16 a s).2.gbank1 = s.gbank1 := by
  obtain ⟨b, p, l, h⟩ := read16_state a s; rw [h]
@[simp] theorem read16_gsel (a : Addr) (s : State) : (read16 a s).2.gsel = s.gsel := by
  obtain ⟨b, p, l, h⟩ := read16_state a s; rw [h]
@[simp] theorem read16_afbank0 (a : Addr) (s : State) : (read16 a s).2.afbank0 = s.afbank0 := by
  obtain ⟨b, p, l, h⟩ := read16_state a s; rw [h]
@[simp] theorem read16_afbank1 (a : Addr) (s : State) : (read16 a s).2.afbank1 = s.afbank1 := by
  obtain ⟨b, p, l, h⟩ := read16_state a s; rw [h]
@[simp] theorem read16_asel (a : Addr) (s : State) : (read16 a s).2.asel = s.asel := by
  obtain ⟨b, p, l, h⟩ := read16_state a s; rw [h]
@[simp] theorem read16_ix (a : Addr) (s : State) : (read16 a s).2.ix = s.ix := by
  obtain ⟨b, p, l, h⟩ := read16_state a s; rw [h]
@[simp] theorem read16_iy (a : Addr) (s : State) : (read16 a s).2.iy = s.iy := by
  obtain ⟨b, p, l, h⟩ := read16_state a s; rw [h]
@[simp] theorem read16_sp (a : Addr) (s : State) : (read16 a s).2.sp = s.sp := by
  obtain ⟨b, p, l, h⟩ := read16_state a s; rw [h]
@[simp] theorem read16_pc (a : Addr) (s : State) : (read16 a s).2.pc = s.pc := by
  obtain ⟨b, p, l, h⟩ := read16_state a s; rw [h]
@[simp] theorem read16_halted (a : Addr) (s : State) : (read16 a s).2.halted = s.halted := by
  obtain ⟨b, p, l, h⟩ := read16_state a s; rw [h]
@[simp] theorem read16_afterEi (a : Addr) (s : State) : (read16 a s).2.afterEi = s.afterEi := by
  obtain ⟨b, p, l, h⟩ := read16_state a s; rw [h]
@[simp] theorem read16_residual (a : Addr) (s : State) : (read16 a s).2.residual = s.residual := by
  obtain ⟨b, p, l, h⟩ := read16_state a s; rw [h]
@[simp] theorem read16_pending (a : Addr) (s : State) : (read16 a s).2.pending = s.pending := by
  obtain ⟨b, p, l, h⟩ := read16_state a s; rw [h]
@[simp] theorem read16_mask (a : Addr) (s : State) : (read16 a s).2.mask = s.mask := by
  obtain ⟨b, p, l, h⟩ := read16_state a s; rw [h]
@[simp] theorem read16_line (a : Addr) (s : State) : (read16 a s).2.line = s.line := by
  obtain ⟨b, p, l, h⟩ := read16_state a s; rw [h]
@[simp] theorem read16_t0 (a : Addr) (s : State) : (read16 a s).2.t0 = s.t0 := by
  obtain ⟨b, p, l, h⟩ := read16_state a s; rw [h]
@[simp] theorem read16_t1 (a : Addr) (s : State) : (read16 a s).2.t1 = s.t1 := by
  obtain ⟨b, p, l, h⟩ := read16_state a s; rw [h]
@[simp] theorem read16_t2 (a : Addr) (s : State) : (read16 a s).2.t2 = s.t2 := by
  obtain ⟨b, p, l, h⟩ := read16_state a s; rw [h]
@[simp] theorem read16_t3 (a : Addr) (s : State) : (read16 a s).2.t3 = s.t3 := by
  obtain ⟨b, p, l, h⟩ := read16_state a s; rw [h]
@[simp] theorem read16_t4 (a : Addr) (s : State) : (read16 a s).2.t4 = s.t4 := by
  obtain ⟨b, p, l, h⟩ := read16_state a s; rw [h]
@[simp] theorem read16_bankX (a : Addr) (s : State) : (read16 a s).2.bankX = s.bankX := by
  obtain ⟨b, p, l, h⟩ := read16_state a s; rw [h]
@[simp] theorem read16_bankY (a : Addr) (s : State) : (read16 a s).2.bankY = s.bankY := by
  obtain ⟨b, p, l, h⟩ := read16_state a s; rw [h]
@[simp] theorem read16_mem (a : Addr) (s : State) : (read16 a s).2.mem = s.mem := by
  obtain ⟨b, p, l, h⟩ := read16_state a s; rw [h]
@[simp] theorem read16_cost (a : Addr) (s : State) : (read16 a s).2.cost = s.cost := by
  obtain ⟨b, p, l, h⟩ := read16_state a s; rw [h]
@[simp] theorem read16_freeCount (a : Addr) (s : State) : (read16 a s).2.freeCount = s.freeCount := by
  obtain ⟨b, p, l, h⟩ := read16_state a s; rw [h]
@[simp] theorem read16_cfg (a : Addr) (s : State) : (read16 a s).2.cfg = s.cfg := by
  obtain ⟨b, p, l, h⟩ := read16_state a s; rw [h]
@[simp] theorem read16_gen (a : Addr) (s : State) : (read16 a s).2.gen = s.gen := by
  obtain ⟨b, p, l, h⟩ := read16_state a s; rw [h]; rfl
@[simp] theorem read16_genShadow (a : Addr) (s : State) : (read16 a s).2.genShadow = s.genShadow := by
  obtain ⟨b, p, l, h⟩ := read16_state a s; rw [h]; rfl
@[simp] theorem read16_af (a : Addr) (s : State) : (read16 a s).2.af = s.af := by
  obtain ⟨b, p, l, h⟩ := read16_state a s; rw [h]; rfl
@[simp] theorem read16_afShadow (a : Addr) (s : State) : (read16 a s).2.afShadow = s.afShadow := by
  obtain ⟨b, p, l, h⟩ := read16_state a s; rw [h]; rfl
@[simp] theorem read16_f (a : Addr) (s : State) : (read16 a s).2.f = s.f := by
  obtain ⟨b, p, l, h⟩ := read16_state a s; rw [h]; rfl
@[simp] theorem read16_get8 (a : Addr) (s : State) (r : Reg8) : (read16 a s).2.get8 r = s.get8 r := by
  obtain ⟨b, p, l, h⟩ := read16_state a s; rw [h]; cases r <;> rfl
@[simp] theorem read16_get16 (a : Addr) (s : State) (g : Reg16) : (read16 a s).2.get16 g = s.get16 g := by
  obtain ⟨b, p, l, h⟩ := read16_state a s; rw [h]; cases g <;> rfl
@[simp] theorem read16_getQ (a : Addr) (s : State) (q : RegQ) : (read16 a s).2.getQ q = s.getQ q := by
  obtain ⟨b, p, l, h⟩ := read16_state a s; rw [h]; cases q <;> rfl

/-! ### Writes -/

/-- A control register write changes nothing but interrupt, timer, bank and outside state. -/
theorem ioWrite_state (r : IoReg) (v : Byte) (s : State) :
    ∃ q k t0 t1 t2 t3 t4 x y b p l, ioWrite r v s =
      { s with
        pending := q, mask := k, t0 := t0, t1 := t1, t2 := t2, t3 := t3, t4 := t4, bankX := x, bankY := y,
        busAnswers := b, ports := p, callLog := l } := by
  cases r with
  | port n =>
    unfold ioWrite writePort
    dsimp only
    split
    · exact ⟨_, _, _, _, _, _, _, _, _, _, _, _, rfl⟩
    · exact ⟨_, _, _, _, _, _, _, _, _, _, _, _, rfl⟩
  | _ => exact ⟨_, _, _, _, _, _, _, _, _, _, _, _, rfl⟩

/-- A byte write changes nothing but memory, interrupt, timer, bank and outside state. -/
theorem write8_state (a : Addr) (v : Byte) (s : State) :
    ∃ q k t0 t1 t2 t3 t4 x y m b p l, write8 a v s =
      { s with pending := q, mask := k, t0 := t0, t1 := t1, t2 := t2, t3 := t3, t4 := t4, bankX := x, bankY := y, mem := m, busAnswers := b, ports := p, callLog := l } := by
  unfold write8
  split
  · obtain ⟨q, k, t0, t1, t2, t3, t4, x, y, b, p, l, h⟩ := ioWrite_state ‹_› v s
    exact ⟨q, k, t0, t1, t2, t3, t4, x, y, s.mem, b, p, l, h⟩
  · unfold memWrite8
    split
    · exact ⟨_, _, _, _, _, _, _, _, _, _, _, _, _, rfl⟩
    · exact ⟨_, _, _, _, _, _, _, _, _, _, _, _, _, rfl⟩
    · exact ⟨_, _, _, _, _, _, _, _, _, _, _, _, _, rfl⟩

/-- A word write changes nothing but memory, interrupt, timer, bank and outside state. -/
theorem write16_state (a : Addr) (v : Word) (s : State) :
    ∃ q k t0 t1 t2 t3 t4 x y m b p l, write16 a v s =
      { s with pending := q, mask := k, t0 := t0, t1 := t1, t2 := t2, t3 := t3, t4 := t4, bankX := x, bankY := y, mem := m, busAnswers := b, ports := p, callLog := l } := by
  obtain ⟨_, _, _, _, _, _, _, _, _, _, _, _, _, h⟩ := write8_state a (loByte v) s
  obtain ⟨q, k, t0, t1, t2, t3, t4, x, y, m, b, p, l, h'⟩ := write8_state (nextAddr a) (hiByte v) (write8 a (loByte v) s)
  exact ⟨q, k, t0, t1, t2, t3, t4, x, y, m, b, p, l, by unfold write16; rw [h', h]⟩

@[simp] theorem write8_gbank0 (a : Addr) (v : Byte) (s : State) : (write8 a v s).gbank0 = s.gbank0 := by
  obtain ⟨_, _, _, _, _, _, _, _, _, _, _, _, _, h⟩ := write8_state a v s; rw [h]
@[simp] theorem write8_gbank1 (a : Addr) (v : Byte) (s : State) : (write8 a v s).gbank1 = s.gbank1 := by
  obtain ⟨_, _, _, _, _, _, _, _, _, _, _, _, _, h⟩ := write8_state a v s; rw [h]
@[simp] theorem write8_gsel (a : Addr) (v : Byte) (s : State) : (write8 a v s).gsel = s.gsel := by
  obtain ⟨_, _, _, _, _, _, _, _, _, _, _, _, _, h⟩ := write8_state a v s; rw [h]
@[simp] theorem write8_afbank0 (a : Addr) (v : Byte) (s : State) : (write8 a v s).afbank0 = s.afbank0 := by
  obtain ⟨_, _, _, _, _, _, _, _, _, _, _, _, _, h⟩ := write8_state a v s; rw [h]
@[simp] theorem write8_afbank1 (a : Addr) (v : Byte) (s : State) : (write8 a v s).afbank1 = s.afbank1 := by
  obtain ⟨_, _, _, _, _, _, _, _, _, _, _, _, _, h⟩ := write8_state a v s; rw [h]
@[simp] theorem write8_asel (a : Addr) (v : Byte) (s : State) : (write8 a v s).asel = s.asel := by
  obtain ⟨_, _, _, _, _, _, _, _, _, _, _, _, _, h⟩ := write8_state a v s; rw [h]
@[simp] theorem write8_ix (a : Addr) (v : Byte) (s : State) : (write8 a v s).ix = s.ix := by
  obtain ⟨_, _, _, _, _, _, _, _, _, _, _, _, _, h⟩ := write8_state a v s; rw [h]
@[simp] theorem write8_iy (a : Addr) (v : Byte) (s : State) : (write8 a v s).iy = s.iy := by
  obtain ⟨_, _, _, _, _, _, _, _, _, _, _, _, _, h⟩ := write8_state a v s; rw [h]
@[simp] theorem write8_sp (a : Addr) (v : Byte) (s : State) : (write8 a v s).sp = s.sp := by
  obtain ⟨_, _, _, _, _, _, _, _, _, _, _, _, _, h⟩ := write8_state a v s; rw [h]
@[simp] theorem write8_pc (a : Addr) (v : Byte) (s : State) : (write8 a v s).pc = s.pc := by
  obtain ⟨_, _, _, _, _, _, _, _, _, _, _, _, _, h⟩ := write8_state a v s; rw [h]
@[simp] theorem write8_halted (a : Addr) (v : Byte) (s : State) : (write8 a v s).halted = s.halted := by
  obtain ⟨_, _, _, _, _, _, _, _, _, _, _, _, _, h⟩ := write8_state a v s; rw [h]
@[simp] theorem write8_afterEi (a : Addr) (v : Byte) (s : State) : (write8 a v s).afterEi = s.afterEi := by
  obtain ⟨_, _, _, _, _, _, _, _, _, _, _, _, _, h⟩ := write8_state a v s; rw [h]
@[simp] theorem write8_residual (a : Addr) (v : Byte) (s : State) : (write8 a v s).residual = s.residual := by
  obtain ⟨_, _, _, _, _, _, _, _, _, _, _, _, _, h⟩ := write8_state a v s; rw [h]
@[simp] theorem write8_line (a : Addr) (v : Byte) (s : State) : (write8 a v s).line = s.line := by
  obtain ⟨_, _, _, _, _, _, _, _, _, _, _, _, _, h⟩ := write8_state a v s; rw [h]
@[simp] theorem write8_cost (a : Addr) (v : Byte) (s : State) : (write8 a v s).cost = s.cost := by
  obtain ⟨_, _, _, _, _, _, _, _, _, _, _, _, _, h⟩ := write8_state a v s; rw [h]
@[simp] theorem write8_freeCount (a : Addr) (v : Byte) (s : State) : (write8 a v s).freeCount = s.freeCount := by
  obtain ⟨_, _, _, _, _, _, _, _, _, _, _, _, _, h⟩ := write8_state a v s; rw [h]
@[simp] theorem write8_cfg (a : Addr) (v : Byte) (s : State) : (write8 a v s).cfg = s.cfg := by
  obtain ⟨_, _, _, _, _, _, _, _, _, _, _, _, _, h⟩ := write8_state a v s; rw [h]
@[simp] theorem write8_gen (a : Addr) (v : Byte) (s : State) : (write8 a v s).gen = s.gen := by
  obtain ⟨_, _, _, _, _, _, _, _, _, _, _, _, _, h⟩ := write8_state a v s; rw [h]; rfl
@[simp] theorem write8_genShadow (a : Addr) (v : Byte) (s : State) : (write8 a v s).genShadow = s.genShadow := by
  obtain ⟨_, _, _, _, _, _, _, _, _, _, _, _, _, h⟩ := write8_state a v s; rw [h]; rfl
@[simp] theorem write8_af (a : Addr) (v : Byte) (s : State) : (write8 a v s).af = s.af := by
  obtain ⟨_, _, _, _, _, _, _, _, _, _, _, _, _, h⟩ := write8_state a v s; rw [h]; rfl
@[simp] theorem write8_afShadow (a : Addr) (v : Byte) (s : State) : (write8 a v s).afShadow = s.afShadow := by
  obtain ⟨_, _, _, _, _, _, _, _, _, _, _, _, _, h⟩ := write8_state a v s; rw [h]; rfl
@[simp] theorem write8_f (a : Addr) (v : Byte) (s : State) : (write8 a v s).f = s.f := by
  obtain ⟨_, _, _, _, _, _, _, _, _, _, _, _, _, h⟩ := write8_state a v s; rw [h]; rfl
@[simp] theorem write8_get8 (a : Addr) (v : Byte) (s : State) (r : Reg8) : (write8 a v s).get8 r = s.get8 r := by
  obtain ⟨_, _, _, _, _, _, _, _, _, _, _, _, _, h⟩ := write8_state a v s; rw [h]; cases r <;> rfl
@[simp] theorem write8_get16 (a : Addr) (v : Byte) (s : State) (g : Reg16) : (write8 a v s).get16 g = s.get16 g := by
  obtain ⟨_, _, _, _, _, _, _, _, _, _, _, _, _, h⟩ := write8_state a v s; rw [h]; cases g <;> rfl
@[simp] theorem write8_getQ (a : Addr) (v : Byte) (s : State) (q : RegQ) : (write8 a v s).getQ q = s.getQ q := by
  obtain ⟨_, _, _, _, _, _, _, _, _, _, _, _, _, h⟩ := write8_state a v s; rw [h]; cases q <;> rfl

@[simp] theorem write16_gbank0 (a : Addr) (v : Word) (s : State) : (write16 a v s).gbank0 = s.gbank0 := by
  obtain ⟨_, _, _, _, _, _, _, _, _, _, _, _, _, h⟩ := write16_state a v s; rw [h]
@[simp] theorem write16_gbank1 (a : Addr) (v : Word) (s : State) : (write16 a v s).gbank1 = s.gbank1 := by
  obtain ⟨_, _, _, _, _, _, _, _, _, _, _, _, _, h⟩ := write16_state a v s; rw [h]
@[simp] theorem write16_gsel (a : Addr) (v : Word) (s : State) : (write16 a v s).gsel = s.gsel := by
  obtain ⟨_, _, _, _, _, _, _, _, _, _, _, _, _, h⟩ := write16_state a v s; rw [h]
@[simp] theorem write16_afbank0 (a : Addr) (v : Word) (s : State) : (write16 a v s).afbank0 = s.afbank0 := by
  obtain ⟨_, _, _, _, _, _, _, _, _, _, _, _, _, h⟩ := write16_state a v s; rw [h]
@[simp] theorem write16_afbank1 (a : Addr) (v : Word) (s : State) : (write16 a v s).afbank1 = s.afbank1 := by
  obtain ⟨_, _, _, _, _, _, _, _, _, _, _, _, _, h⟩ := write16_state a v s; rw [h]
@[simp] theorem write16_asel (a : Addr) (v : Word) (s : State) : (write16 a v s).asel = s.asel := by
  obtain ⟨_, _, _, _, _, _, _, _, _, _, _, _, _, h⟩ := write16_state a v s; rw [h]
@[simp] theorem write16_ix (a : Addr) (v : Word) (s : State) : (write16 a v s).ix = s.ix := by
  obtain ⟨_, _, _, _, _, _, _, _, _, _, _, _, _, h⟩ := write16_state a v s; rw [h]
@[simp] theorem write16_iy (a : Addr) (v : Word) (s : State) : (write16 a v s).iy = s.iy := by
  obtain ⟨_, _, _, _, _, _, _, _, _, _, _, _, _, h⟩ := write16_state a v s; rw [h]
@[simp] theorem write16_sp (a : Addr) (v : Word) (s : State) : (write16 a v s).sp = s.sp := by
  obtain ⟨_, _, _, _, _, _, _, _, _, _, _, _, _, h⟩ := write16_state a v s; rw [h]
@[simp] theorem write16_pc (a : Addr) (v : Word) (s : State) : (write16 a v s).pc = s.pc := by
  obtain ⟨_, _, _, _, _, _, _, _, _, _, _, _, _, h⟩ := write16_state a v s; rw [h]
@[simp] theorem write16_halted (a : Addr) (v : Word) (s : State) : (write16 a v s).halted = s.halted := by
  obtain ⟨_, _, _, _, _, _, _, _, _, _, _, _, _, h⟩ := write16_state a v s; rw [h]
@[simp] theorem write16_afterEi (a : Addr) (v : Word) (s : State) : (write16 a v s).afterEi = s.afterEi := by
  obtain ⟨_, _, _, _, _, _, _, _, _, _, _, _, _, h⟩ := write16_state a v s; rw [h]
@[simp] theorem write16_residual (a : Addr) (v : Word) (s : State) : (write16 a v s).residual = s.residual := by
  obtain ⟨_, _, _, _, _, _, _, _, _, _, _, _, _, h⟩ := write16_state a v s; rw [h]
@[simp] theorem write16_line (a : Addr) (v : Word) (s : State) : (write16 a v s).line = s.line := by
  obtain ⟨_, _, _, _, _, _, _, _, _, _, _, _, _, h⟩ := write16_state a v s; rw [h]
@[simp] theorem write16_cost (a : Addr) (v : Word) (s : State) : (write16 a v s).cost = s.cost := by
  obtain ⟨_, _, _, _, _, _, _, _, _, _, _, _, _, h⟩ := write16_state a v s; rw [h]
@[simp] theorem write16_freeCount (a : Addr) (v : Word) (s : State) : (write16 a v s).freeCount = s.freeCount := by
  obtain ⟨_, _, _, _, _, _, _, _, _, _, _, _, _, h⟩ := write16_state a v s; rw [h]
@[simp] theorem write16_cfg (a : Addr) (v : Word) (s : State) : (write16 a v s).cfg = s.cfg := by
  obtain ⟨_, _, _, _, _, _, _, _, _, _, _, _, _, h⟩ := write16_state a v s; rw [h]
@[simp] theorem write16_gen (a : Addr) (v : Word) (s : State) : (write16 a v s).gen = s.gen := by
  obtain ⟨_, _, _, _, _, _, _, _, _, _, _, _, _, h⟩ := write16_state a v s; rw [h]; rfl
@[simp] theorem write16_genShadow (a : Addr) (v : Word) (s : State) : (write16 a v s).genShadow = s.genShadow := by
  obtain ⟨_, _, _, _, _, _, _, _, _, _, _, _, _, h⟩ := write16_state a v s; rw [h]; rfl
@[simp] theorem write16_af (a : Addr) (v : Word) (s : State) : (write16 a v s).af = s.af := by
  obtain ⟨_, _, _, _, _, _, _, _, _, _, _, _, _, h⟩ := write16_state a v s; rw [h]; rfl
@[simp] theorem write16_afShadow (a : Addr) (v : Word) (s : State) : (write16 a v s).afShadow = s.afShadow := by
  obtain ⟨_, _, _, _, _, _, _, _, _, _, _, _, _, h⟩ := write16_state a v s; rw [h]; rfl
@[simp] theorem write16_f (a : Addr) (v : Word) (s : State) : (write16 a v s).f = s.f := by
  obtain ⟨_, _, _, _, _, _, _, _, _, _, _, _, _, h⟩ := write16_state a v s; rw [h]; rfl
@[simp] theorem write16_get8 (a : Addr) (v : Word) (s : State) (r : Reg8) : (write16 a v s).get8 r = s.get8 r := by
  obtain ⟨_, _, _, _, _, _, _, _, _, _, _, _, _, h⟩ := write16_state a v s; rw [h]; cases r <;> rfl
@[simp] theorem write16_get16 (a : Addr) (v : Word) (s : State) (g : Reg16) : (write16 a v s).get16 g = s.get16 g := by
  obtain ⟨_, _, _, _, _, _, _, _, _, _, _, _, _, h⟩ := write16_state a v s; rw [h]; cases g <;> rfl
@[simp] theorem write16_getQ (a : Addr) (v : Word) (s : State) (q : RegQ) : (write16 a v s).getQ q = s.getQ q := by
  obtain ⟨_, _, _, _, _, _, _, _, _, _, _, _, _, h⟩ := write16_state a v s; rw [h]; cases q <;> rfl

/-- The memory after a byte write (R62): only an address that keeps bytes changes. -/
theorem write8_mem (a : Addr) (v : Byte) (s : State) :
    (write8 a v s).mem = if s.keepsByte a = true then s.mem.write a v else s.mem := by
  unfold write8 State.keepsByte
  cases h : claimed a with
  | none => unfold memWrite8; cases hk : s.memKind a <;> simp
  | some r =>
    obtain ⟨q, k, t0, t1, t2, t3, t4, x, y, b, p, l, e⟩ := ioWrite_state r v s
    simp [e]

/-- What an address does depends on the parameters alone, which no access changes. -/
@[simp] theorem write8_keepsByte_eq (a b : Addr) (v : Byte) (s : State) : (write8 a v s).keepsByte b = s.keepsByte b := by
  simp [State.keepsByte, State.memKind]

/-- A byte write keeps the canonical form of the memory. -/
theorem write8_mem_wf {s : State} (wf : s.mem.wf = true) (a : Addr) (v : Byte) : (write8 a v s).mem.wf = true := by
  rw [write8_mem]
  split
  · exact Memory.write_wf wf _ _
  · exact wf

/-- A word write keeps the canonical form of the memory. -/
theorem write16_mem_wf {s : State} (wf : s.mem.wf = true) (a : Addr) (v : Word) : (write16 a v s).mem.wf = true :=
  write8_mem_wf (write8_mem_wf wf _ _) _ _

/-- What a byte of memory reads after a byte write. -/
theorem write8_read (s : State) (a b : Addr) (v : Byte) :
    (write8 a v s).mem.read b = if b = a ∧ s.keepsByte a = true then v else s.mem.read b := by
  rw [write8_mem]
  by_cases h : s.keepsByte a = true
  · simp [h, Memory.read_write]
  · simp [h]

/-- What a byte of memory reads after a word write (R65). -/
theorem write16_read (s : State) (a b : Addr) (v : Word) :
    (write16 a v s).mem.read b =
      if b = nextAddr a ∧ s.keepsByte (nextAddr a) = true then hiByte v
      else if b = a ∧ s.keepsByte a = true then loByte v
      else s.mem.read b := by
  unfold write16
  rw [write8_read, write8_read, write8_keepsByte_eq]

/-! ### The stack -/

/-- After a push SP is two less (R72). -/
@[simp] theorem push16_sp (v : Word) (s : State) : (push16 v s).sp = s.sp - 2 := by simp [push16]

/-- After a pop SP is two more (R72). -/
@[simp] theorem pop16_sp (s : State) : (pop16 s).2.sp = s.sp + 2 := by simp [pop16]

@[simp] theorem push16_gbank0 (v : Word) (s : State) : (push16 v s).gbank0 = s.gbank0 := by simp [push16]
@[simp] theorem push16_gbank1 (v : Word) (s : State) : (push16 v s).gbank1 = s.gbank1 := by simp [push16]
@[simp] theorem push16_gsel (v : Word) (s : State) : (push16 v s).gsel = s.gsel := by simp [push16]
@[simp] theorem push16_afbank0 (v : Word) (s : State) : (push16 v s).afbank0 = s.afbank0 := by simp [push16]
@[simp] theorem push16_afbank1 (v : Word) (s : State) : (push16 v s).afbank1 = s.afbank1 := by simp [push16]
@[simp] theorem push16_asel (v : Word) (s : State) : (push16 v s).asel = s.asel := by simp [push16]
@[simp] theorem push16_ix (v : Word) (s : State) : (push16 v s).ix = s.ix := by simp [push16]
@[simp] theorem push16_iy (v : Word) (s : State) : (push16 v s).iy = s.iy := by simp [push16]
@[simp] theorem push16_pc (v : Word) (s : State) : (push16 v s).pc = s.pc := by simp [push16]
@[simp] theorem push16_halted (v : Word) (s : State) : (push16 v s).halted = s.halted := by simp [push16]
@[simp] theorem push16_afterEi (v : Word) (s : State) : (push16 v s).afterEi = s.afterEi := by simp [push16]
@[simp] theorem push16_residual (v : Word) (s : State) : (push16 v s).residual = s.residual := by simp [push16]
@[simp] theorem push16_line (v : Word) (s : State) : (push16 v s).line = s.line := by simp [push16]
@[simp] theorem push16_cost (v : Word) (s : State) : (push16 v s).cost = s.cost := by simp [push16]
@[simp] theorem push16_freeCount (v : Word) (s : State) : (push16 v s).freeCount = s.freeCount := by simp [push16]
@[simp] theorem push16_cfg (v : Word) (s : State) : (push16 v s).cfg = s.cfg := by simp [push16]
@[simp] theorem push16_gen (v : Word) (s : State) : (push16 v s).gen = s.gen := by simp [push16]
@[simp] theorem push16_genShadow (v : Word) (s : State) : (push16 v s).genShadow = s.genShadow := by simp [push16]
@[simp] theorem push16_af (v : Word) (s : State) : (push16 v s).af = s.af := by simp [push16]
@[simp] theorem push16_afShadow (v : Word) (s : State) : (push16 v s).afShadow = s.afShadow := by simp [push16]
@[simp] theorem push16_f (v : Word) (s : State) : (push16 v s).f = s.f := by simp [push16]
@[simp] theorem push16_get8 (v : Word) (s : State) (r : Reg8) : (push16 v s).get8 r = s.get8 r := by simp [push16]

@[simp] theorem pop16_gbank0 (s : State) : (pop16 s).2.gbank0 = s.gbank0 := by simp [pop16]
@[simp] theorem pop16_gbank1 (s : State) : (pop16 s).2.gbank1 = s.gbank1 := by simp [pop16]
@[simp] theorem pop16_gsel (s : State) : (pop16 s).2.gsel = s.gsel := by simp [pop16]
@[simp] theorem pop16_afbank0 (s : State) : (pop16 s).2.afbank0 = s.afbank0 := by simp [pop16]
@[simp] theorem pop16_afbank1 (s : State) : (pop16 s).2.afbank1 = s.afbank1 := by simp [pop16]
@[simp] theorem pop16_asel (s : State) : (pop16 s).2.asel = s.asel := by simp [pop16]
@[simp] theorem pop16_ix (s : State) : (pop16 s).2.ix = s.ix := by simp [pop16]
@[simp] theorem pop16_iy (s : State) : (pop16 s).2.iy = s.iy := by simp [pop16]
@[simp] theorem pop16_pc (s : State) : (pop16 s).2.pc = s.pc := by simp [pop16]
@[simp] theorem pop16_halted (s : State) : (pop16 s).2.halted = s.halted := by simp [pop16]
@[simp] theorem pop16_afterEi (s : State) : (pop16 s).2.afterEi = s.afterEi := by simp [pop16]
@[simp] theorem pop16_residual (s : State) : (pop16 s).2.residual = s.residual := by simp [pop16]
@[simp] theorem pop16_pending (s : State) : (pop16 s).2.pending = s.pending := by simp [pop16]
@[simp] theorem pop16_mask (s : State) : (pop16 s).2.mask = s.mask := by simp [pop16]
@[simp] theorem pop16_line (s : State) : (pop16 s).2.line = s.line := by simp [pop16]
@[simp] theorem pop16_t0 (s : State) : (pop16 s).2.t0 = s.t0 := by simp [pop16]
@[simp] theorem pop16_t1 (s : State) : (pop16 s).2.t1 = s.t1 := by simp [pop16]
@[simp] theorem pop16_t2 (s : State) : (pop16 s).2.t2 = s.t2 := by simp [pop16]
@[simp] theorem pop16_t3 (s : State) : (pop16 s).2.t3 = s.t3 := by simp [pop16]
@[simp] theorem pop16_t4 (s : State) : (pop16 s).2.t4 = s.t4 := by simp [pop16]
@[simp] theorem pop16_bankX (s : State) : (pop16 s).2.bankX = s.bankX := by simp [pop16]
@[simp] theorem pop16_bankY (s : State) : (pop16 s).2.bankY = s.bankY := by simp [pop16]
@[simp] theorem pop16_mem (s : State) : (pop16 s).2.mem = s.mem := by simp [pop16]
@[simp] theorem pop16_cost (s : State) : (pop16 s).2.cost = s.cost := by simp [pop16]
@[simp] theorem pop16_freeCount (s : State) : (pop16 s).2.freeCount = s.freeCount := by simp [pop16]
@[simp] theorem pop16_cfg (s : State) : (pop16 s).2.cfg = s.cfg := by simp [pop16]
@[simp] theorem pop16_gen (s : State) : (pop16 s).2.gen = s.gen := by simp [pop16]
@[simp] theorem pop16_genShadow (s : State) : (pop16 s).2.genShadow = s.genShadow := by simp [pop16]
@[simp] theorem pop16_af (s : State) : (pop16 s).2.af = s.af := by simp [pop16]
@[simp] theorem pop16_afShadow (s : State) : (pop16 s).2.afShadow = s.afShadow := by simp [pop16]
@[simp] theorem pop16_f (s : State) : (pop16 s).2.f = s.f := by simp [pop16]
@[simp] theorem pop16_get8 (s : State) (r : Reg8) : (pop16 s).2.get8 r = s.get8 r := by simp [pop16]

/-- A push keeps the canonical form of the memory. -/
theorem push16_mem_wf {s : State} (wf : s.mem.wf = true) (v : Word) : (push16 v s).mem.wf = true :=
  write16_mem_wf (s := s.setSp (s.sp - 2)) wf _ _

/-! ### Accesses commute with register writes -/

theorem read8_setAf (a : Addr) (s : State) (w : Word) :
    read8 a (s.setAf w) = ((read8 a s).1, (read8 a s).2.setAf w) := by
  unfold read8
  split
  · rename_i r _
    cases r with
    | port n =>
      unfold ioRead readPort
      dsimp only
      rw [State.setAf_ports]
      split <;> rfl
    | _ => rfl
  · unfold memRead8 State.memKind
    rw [State.setAf_cfg, State.setAf_busAnswers]
    split
    · split <;> rfl
    · rfl

theorem write8_setAf (a : Addr) (v : Byte) (s : State) (w : Word) :
    write8 a v (s.setAf w) = (write8 a v s).setAf w := by
  unfold write8
  split
  · rename_i r _
    cases r with
    | port n =>
      unfold ioWrite writePort
      dsimp only
      rw [State.setAf_ports]
      split <;> rfl
    | _ => rfl
  · unfold memWrite8 State.memKind
    rw [State.setAf_cfg]
    split <;> rfl

theorem read16_setAf (a : Addr) (s : State) (w : Word) :
    read16 a (s.setAf w) = ((read16 a s).1, (read16 a s).2.setAf w) := by
  simp only [read16, read8_setAf]

theorem write16_setAf (a : Addr) (v : Word) (s : State) (w : Word) :
    write16 a v (s.setAf w) = (write16 a v s).setAf w := by
  simp only [write16, write8_setAf]

theorem read8_setGen (a : Addr) (s : State) (g : GenBank) :
    read8 a (s.setGen g) = ((read8 a s).1, (read8 a s).2.setGen g) := by
  unfold read8
  split
  · rename_i r _
    cases r with
    | port n =>
      unfold ioRead readPort
      dsimp only
      rw [State.setGen_ports]
      split <;> rfl
    | _ => rfl
  · unfold memRead8 State.memKind
    rw [State.setGen_cfg, State.setGen_busAnswers]
    split
    · split <;> rfl
    · rfl

theorem write8_setGen (a : Addr) (v : Byte) (s : State) (g : GenBank) :
    write8 a v (s.setGen g) = (write8 a v s).setGen g := by
  unfold write8
  split
  · rename_i r _
    cases r with
    | port n =>
      unfold ioWrite writePort
      dsimp only
      rw [State.setGen_ports]
      split <;> rfl
    | _ => rfl
  · unfold memWrite8 State.memKind
    rw [State.setGen_cfg]
    split <;> rfl

theorem read16_setGen (a : Addr) (s : State) (g : GenBank) :
    read16 a (s.setGen g) = ((read16 a s).1, (read16 a s).2.setGen g) := by
  simp only [read16, read8_setGen]

theorem write16_setGen (a : Addr) (v : Word) (s : State) (g : GenBank) :
    write16 a v (s.setGen g) = (write16 a v s).setGen g := by
  simp only [write16, write8_setGen]

theorem read8_setIx (a : Addr) (s : State) (w : Word) :
    read8 a (s.setIx w) = ((read8 a s).1, (read8 a s).2.setIx w) := by
  unfold read8
  split
  · rename_i r _
    cases r with
    | port n =>
      unfold ioRead readPort
      dsimp only
      rw [State.setIx_ports]
      split <;> rfl
    | _ => rfl
  · unfold memRead8 State.memKind
    rw [State.setIx_cfg, State.setIx_busAnswers]
    split
    · split <;> rfl
    · rfl

theorem write8_setIx (a : Addr) (v : Byte) (s : State) (w : Word) :
    write8 a v (s.setIx w) = (write8 a v s).setIx w := by
  unfold write8
  split
  · rename_i r _
    cases r with
    | port n =>
      unfold ioWrite writePort
      dsimp only
      rw [State.setIx_ports]
      split <;> rfl
    | _ => rfl
  · unfold memWrite8 State.memKind
    rw [State.setIx_cfg]
    split <;> rfl

theorem read16_setIx (a : Addr) (s : State) (w : Word) :
    read16 a (s.setIx w) = ((read16 a s).1, (read16 a s).2.setIx w) := by
  simp only [read16, read8_setIx]

theorem write16_setIx (a : Addr) (v : Word) (s : State) (w : Word) :
    write16 a v (s.setIx w) = (write16 a v s).setIx w := by
  simp only [write16, write8_setIx]

theorem read8_setIy (a : Addr) (s : State) (w : Word) :
    read8 a (s.setIy w) = ((read8 a s).1, (read8 a s).2.setIy w) := by
  unfold read8
  split
  · rename_i r _
    cases r with
    | port n =>
      unfold ioRead readPort
      dsimp only
      rw [State.setIy_ports]
      split <;> rfl
    | _ => rfl
  · unfold memRead8 State.memKind
    rw [State.setIy_cfg, State.setIy_busAnswers]
    split
    · split <;> rfl
    · rfl

theorem write8_setIy (a : Addr) (v : Byte) (s : State) (w : Word) :
    write8 a v (s.setIy w) = (write8 a v s).setIy w := by
  unfold write8
  split
  · rename_i r _
    cases r with
    | port n =>
      unfold ioWrite writePort
      dsimp only
      rw [State.setIy_ports]
      split <;> rfl
    | _ => rfl
  · unfold memWrite8 State.memKind
    rw [State.setIy_cfg]
    split <;> rfl

theorem read16_setIy (a : Addr) (s : State) (w : Word) :
    read16 a (s.setIy w) = ((read16 a s).1, (read16 a s).2.setIy w) := by
  simp only [read16, read8_setIy]

theorem write16_setIy (a : Addr) (v : Word) (s : State) (w : Word) :
    write16 a v (s.setIy w) = (write16 a v s).setIy w := by
  simp only [write16, write8_setIy]

theorem read8_setSp (a : Addr) (s : State) (w : Word) :
    read8 a (s.setSp w) = ((read8 a s).1, (read8 a s).2.setSp w) := by
  unfold read8
  split
  · rename_i r _
    cases r with
    | port n =>
      unfold ioRead readPort
      dsimp only
      rw [State.setSp_ports]
      split <;> rfl
    | _ => rfl
  · unfold memRead8 State.memKind
    rw [State.setSp_cfg, State.setSp_busAnswers]
    split
    · split <;> rfl
    · rfl

theorem write8_setSp (a : Addr) (v : Byte) (s : State) (w : Word) :
    write8 a v (s.setSp w) = (write8 a v s).setSp w := by
  unfold write8
  split
  · rename_i r _
    cases r with
    | port n =>
      unfold ioWrite writePort
      dsimp only
      rw [State.setSp_ports]
      split <;> rfl
    | _ => rfl
  · unfold memWrite8 State.memKind
    rw [State.setSp_cfg]
    split <;> rfl

theorem read16_setSp (a : Addr) (s : State) (w : Word) :
    read16 a (s.setSp w) = ((read16 a s).1, (read16 a s).2.setSp w) := by
  simp only [read16, read8_setSp]

theorem write16_setSp (a : Addr) (v : Word) (s : State) (w : Word) :
    write16 a v (s.setSp w) = (write16 a v s).setSp w := by
  simp only [write16, write8_setSp]

theorem read8_setPc (a : Addr) (s : State) (w : Word) :
    read8 a (s.setPc w) = ((read8 a s).1, (read8 a s).2.setPc w) := by
  unfold read8
  split
  · rename_i r _
    cases r with
    | port n =>
      unfold ioRead readPort
      dsimp only
      rw [State.setPc_ports]
      split <;> rfl
    | _ => rfl
  · unfold memRead8 State.memKind
    rw [State.setPc_cfg, State.setPc_busAnswers]
    split
    · split <;> rfl
    · rfl

theorem write8_setPc (a : Addr) (v : Byte) (s : State) (w : Word) :
    write8 a v (s.setPc w) = (write8 a v s).setPc w := by
  unfold write8
  split
  · rename_i r _
    cases r with
    | port n =>
      unfold ioWrite writePort
      dsimp only
      rw [State.setPc_ports]
      split <;> rfl
    | _ => rfl
  · unfold memWrite8 State.memKind
    rw [State.setPc_cfg]
    split <;> rfl

theorem read16_setPc (a : Addr) (s : State) (w : Word) :
    read16 a (s.setPc w) = ((read16 a s).1, (read16 a s).2.setPc w) := by
  simp only [read16, read8_setPc]

theorem write16_setPc (a : Addr) (v : Word) (s : State) (w : Word) :
    write16 a v (s.setPc w) = (write16 a v s).setPc w := by
  simp only [write16, write8_setPc]

theorem read8_setCost (a : Addr) (s : State) (n : Nat) :
    read8 a (s.setCost n) = ((read8 a s).1, (read8 a s).2.setCost n) := by
  unfold read8
  split
  · rename_i r _
    cases r with
    | port n =>
      unfold ioRead readPort
      dsimp only
      rw [State.setCost_ports]
      split <;> rfl
    | _ => rfl
  · unfold memRead8 State.memKind
    rw [State.setCost_cfg, State.setCost_busAnswers]
    split
    · split <;> rfl
    · rfl

theorem write8_setCost (a : Addr) (v : Byte) (s : State) (n : Nat) :
    write8 a v (s.setCost n) = (write8 a v s).setCost n := by
  unfold write8
  split
  · rename_i r _
    cases r with
    | port n =>
      unfold ioWrite writePort
      dsimp only
      rw [State.setCost_ports]
      split <;> rfl
    | _ => rfl
  · unfold memWrite8 State.memKind
    rw [State.setCost_cfg]
    split <;> rfl

theorem read16_setCost (a : Addr) (s : State) (n : Nat) :
    read16 a (s.setCost n) = ((read16 a s).1, (read16 a s).2.setCost n) := by
  simp only [read16, read8_setCost]

theorem write16_setCost (a : Addr) (v : Word) (s : State) (n : Nat) :
    write16 a v (s.setCost n) = (write16 a v s).setCost n := by
  simp only [write16, write8_setCost]

theorem read8_takeFree (a : Addr) (s : State) :
    read8 a (s.takeFree) = ((read8 a s).1, (read8 a s).2.takeFree) := by
  unfold read8
  split
  · rename_i r _
    cases r with
    | port n =>
      unfold ioRead readPort
      dsimp only
      rw [State.takeFree_ports]
      split <;> rfl
    | _ => rfl
  · unfold memRead8 State.memKind
    rw [State.takeFree_cfg, State.takeFree_busAnswers]
    split
    · split <;> rfl
    · rfl

theorem write8_takeFree (a : Addr) (v : Byte) (s : State) :
    write8 a v (s.takeFree) = (write8 a v s).takeFree  := by
  unfold write8
  split
  · rename_i r _
    cases r with
    | port n =>
      unfold ioWrite writePort
      dsimp only
      rw [State.takeFree_ports]
      split <;> rfl
    | _ => rfl
  · unfold memWrite8 State.memKind
    rw [State.takeFree_cfg]
    split <;> rfl

theorem read16_takeFree (a : Addr) (s : State) :
    read16 a (s.takeFree) = ((read16 a s).1, (read16 a s).2.takeFree) := by
  simp only [read16, read8_takeFree]

theorem write16_takeFree (a : Addr) (v : Word) (s : State) :
    write16 a v (s.takeFree) = (write16 a v s).takeFree  := by
  simp only [write16, write8_takeFree]

theorem read8_swapGen (a : Addr) (s : State) :
    read8 a (s.swapGen) = ((read8 a s).1, (read8 a s).2.swapGen) := by
  unfold read8
  split
  · rename_i r _
    cases r with
    | port n =>
      unfold ioRead readPort
      dsimp only
      rw [State.swapGen_ports]
      split <;> rfl
    | _ => rfl
  · unfold memRead8 State.memKind
    rw [State.swapGen_cfg, State.swapGen_busAnswers]
    split
    · split <;> rfl
    · rfl

theorem write8_swapGen (a : Addr) (v : Byte) (s : State) :
    write8 a v (s.swapGen) = (write8 a v s).swapGen  := by
  unfold write8
  split
  · rename_i r _
    cases r with
    | port n =>
      unfold ioWrite writePort
      dsimp only
      rw [State.swapGen_ports]
      split <;> rfl
    | _ => rfl
  · unfold memWrite8 State.memKind
    rw [State.swapGen_cfg]
    split <;> rfl

theorem read16_swapGen (a : Addr) (s : State) :
    read16 a (s.swapGen) = ((read16 a s).1, (read16 a s).2.swapGen) := by
  simp only [read16, read8_swapGen]

theorem write16_swapGen (a : Addr) (v : Word) (s : State) :
    write16 a v (s.swapGen) = (write16 a v s).swapGen  := by
  simp only [write16, write8_swapGen]

theorem read8_swapAf (a : Addr) (s : State) :
    read8 a (s.swapAf) = ((read8 a s).1, (read8 a s).2.swapAf) := by
  unfold read8
  split
  · rename_i r _
    cases r with
    | port n =>
      unfold ioRead readPort
      dsimp only
      rw [State.swapAf_ports]
      split <;> rfl
    | _ => rfl
  · unfold memRead8 State.memKind
    rw [State.swapAf_cfg, State.swapAf_busAnswers]
    split
    · split <;> rfl
    · rfl

theorem write8_swapAf (a : Addr) (v : Byte) (s : State) :
    write8 a v (s.swapAf) = (write8 a v s).swapAf  := by
  unfold write8
  split
  · rename_i r _
    cases r with
    | port n =>
      unfold ioWrite writePort
      dsimp only
      rw [State.swapAf_ports]
      split <;> rfl
    | _ => rfl
  · unfold memWrite8 State.memKind
    rw [State.swapAf_cfg]
    split <;> rfl

theorem read16_swapAf (a : Addr) (s : State) :
    read16 a (s.swapAf) = ((read16 a s).1, (read16 a s).2.swapAf) := by
  simp only [read16, read8_swapAf]

theorem write16_swapAf (a : Addr) (v : Word) (s : State) :
    write16 a v (s.swapAf) = (write16 a v s).swapAf  := by
  simp only [write16, write8_swapAf]

theorem read8_setHalted (a : Addr) (s : State) (b : Bool) :
    read8 a (s.setHalted b) = ((read8 a s).1, (read8 a s).2.setHalted b) := by
  unfold read8
  split
  · rename_i r _
    cases r with
    | port n =>
      unfold ioRead readPort
      dsimp only
      rw [State.setHalted_ports]
      split <;> rfl
    | _ => rfl
  · unfold memRead8 State.memKind
    rw [State.setHalted_cfg, State.setHalted_busAnswers]
    split
    · split <;> rfl
    · rfl

theorem write8_setHalted (a : Addr) (v : Byte) (s : State) (b : Bool) :
    write8 a v (s.setHalted b) = (write8 a v s).setHalted b := by
  unfold write8
  split
  · rename_i r _
    cases r with
    | port n =>
      unfold ioWrite writePort
      dsimp only
      rw [State.setHalted_ports]
      split <;> rfl
    | _ => rfl
  · unfold memWrite8 State.memKind
    rw [State.setHalted_cfg]
    split <;> rfl

theorem read16_setHalted (a : Addr) (s : State) (b : Bool) :
    read16 a (s.setHalted b) = ((read16 a s).1, (read16 a s).2.setHalted b) := by
  simp only [read16, read8_setHalted]

theorem write16_setHalted (a : Addr) (v : Word) (s : State) (b : Bool) :
    write16 a v (s.setHalted b) = (write16 a v s).setHalted b := by
  simp only [write16, write8_setHalted]

theorem read8_setAfterEi (a : Addr) (s : State) (b : Bool) :
    read8 a (s.setAfterEi b) = ((read8 a s).1, (read8 a s).2.setAfterEi b) := by
  unfold read8
  split
  · rename_i r _
    cases r with
    | port n =>
      unfold ioRead readPort
      dsimp only
      rw [State.setAfterEi_ports]
      split <;> rfl
    | _ => rfl
  · unfold memRead8 State.memKind
    rw [State.setAfterEi_cfg, State.setAfterEi_busAnswers]
    split
    · split <;> rfl
    · rfl

theorem write8_setAfterEi (a : Addr) (v : Byte) (s : State) (b : Bool) :
    write8 a v (s.setAfterEi b) = (write8 a v s).setAfterEi b := by
  unfold write8
  split
  · rename_i r _
    cases r with
    | port n =>
      unfold ioWrite writePort
      dsimp only
      rw [State.setAfterEi_ports]
      split <;> rfl
    | _ => rfl
  · unfold memWrite8 State.memKind
    rw [State.setAfterEi_cfg]
    split <;> rfl

theorem read16_setAfterEi (a : Addr) (s : State) (b : Bool) :
    read16 a (s.setAfterEi b) = ((read16 a s).1, (read16 a s).2.setAfterEi b) := by
  simp only [read16, read8_setAfterEi]

theorem write16_setAfterEi (a : Addr) (v : Word) (s : State) (b : Bool) :
    write16 a v (s.setAfterEi b) = (write16 a v s).setAfterEi b := by
  simp only [write16, write8_setAfterEi]

end Sys2Proof.Machine
end

