-- ==== Sys2Proof/Laws/Engine.lean ====
section
/-! SUPPORT. What the passage of time, an acceptance, a return and a fetched byte can do, each said once. -/

namespace Sys2Proof.Machine

/-! ### Time (60 R342) -/

/-- `t` is `s` with other timers and other request latches. -/
def OnlyTimers (s t : State) : Prop :=
  ∃ a b c d e p, t = { s with t0 := a, t1 := b, t2 := c, t3 := d, t4 := e, pending := p }

/-- No change is such a change. -/
theorem OnlyTimers.refl (s : State) : OnlyTimers s s := ⟨_, _, _, _, _, _, rfl⟩

/-- Two such changes are one. -/
theorem OnlyTimers.trans {s t u : State} (h : OnlyTimers s t) (k : OnlyTimers t u) : OnlyTimers s u := by
  obtain ⟨_, _, _, _, _, _, rfl⟩ := h
  obtain ⟨_, _, _, _, _, _, rfl⟩ := k
  exact ⟨_, _, _, _, _, _, rfl⟩

/-- Replacing an 8-bit timer. -/
theorem onlyTimers_setTimer8 (s : State) (i : Fin 4) (t : Timer8) : OnlyTimers s (s.setTimer8 i t) :=
  ⟨_, _, _, _, _, _, rfl⟩

/-- Replacing timer 4. -/
theorem onlyTimers_setTimer16 (s : State) (t : Timer16) : OnlyTimers s (s.setTimer16 t) := ⟨_, _, _, _, _, _, rfl⟩

/-- Raising a request. -/
theorem onlyTimers_raiseRequest (s : State) (i : Nat) : OnlyTimers s (raiseRequest i s) := ⟨_, _, _, _, _, _, rfl⟩

/-- A count event of timer 4. -/
theorem onlyTimers_tickTimer16 (s : State) : OnlyTimers s (tickTimer16 s) := by
  simp only [tickTimer16]
  split
  · exact (onlyTimers_setTimer16 s _).trans (onlyTimers_raiseRequest _ _)
  · exact onlyTimers_setTimer16 s _

/-- Chaining. -/
theorem onlyTimers_chain (i : Fin 4) (s : State) : OnlyTimers s (chain i s) := by
  unfold chain
  split
  · exact onlyTimers_tickTimer16 s
  · exact .refl s

/-- A count event of an 8-bit timer. -/
theorem onlyTimers_tickTimer8 (i : Fin 4) (s : State) : OnlyTimers s (tickTimer8 i s) := by
  simp only [tickTimer8]
  split
  · exact ((onlyTimers_setTimer8 s i _).trans (onlyTimers_raiseRequest _ _)).trans (onlyTimers_chain i _)
  · exact onlyTimers_setTimer8 s i _

/-- One cycle of an 8-bit timer. -/
theorem onlyTimers_cycleTimer8 (i : Fin 4) (s : State) : OnlyTimers s (cycleTimer8 i s) := by
  simp only [cycleTimer8]
  split
  · split
    · exact (onlyTimers_setTimer8 s i _).trans (onlyTimers_tickTimer8 i _)
    · exact onlyTimers_setTimer8 s i _
  · exact .refl s

/-- One cycle of timer 4. -/
theorem onlyTimers_cycleTimer16 (s : State) : OnlyTimers s (cycleTimer16 s) := by
  simp only [cycleTimer16]
  split
  · split
    · exact (onlyTimers_setTimer16 s _).trans (onlyTimers_tickTimer16 _)
    · exact onlyTimers_setTimer16 s _
  · exact .refl s

/-- One cycle of all timers. -/
theorem onlyTimers_advanceCycle (s : State) : OnlyTimers s (advanceCycle s) :=
  ((((onlyTimers_cycleTimer8 0 s).trans (onlyTimers_cycleTimer8 1 _)).trans (onlyTimers_cycleTimer8 2 _)).trans
    (onlyTimers_cycleTimer8 3 _)).trans (onlyTimers_cycleTimer16 _)

/-- Any number of cycles. -/
theorem onlyTimers_advanceTimers (n : Nat) (s : State) : OnlyTimers s (advanceTimers n s) := by
  induction n generalizing s with
  | zero => exact .refl s
  | succ n ih => exact (onlyTimers_advanceCycle s).trans (ih _)

/-- Cycles add up: the advance by `m + n` is the advance by `m`, then by `n`. -/
theorem advanceTimers_add (m n : Nat) (s : State) : advanceTimers (m + n) s = advanceTimers n (advanceTimers m s) := by
  induction m generalizing s with
  | zero => rw [Nat.zero_add]; rfl
  | succ m ih => rw [Nat.succ_add]; exact ih _

/-- What a change of timers and latches alone leaves as it was. -/
theorem OnlyTimers.kept {s t : State} (h : OnlyTimers s t) :
    t.gen = s.gen ∧ t.genShadow = s.genShadow ∧ t.af = s.af ∧ t.afShadow = s.afShadow ∧ t.f = s.f ∧ t.gsel = s.gsel ∧
      t.asel = s.asel ∧ t.ix = s.ix ∧ t.iy = s.iy ∧ t.sp = s.sp ∧ t.pc = s.pc ∧ t.halted = s.halted ∧
      t.afterEi = s.afterEi ∧ t.residual = s.residual ∧ t.mask = s.mask ∧ t.line = s.line ∧ t.bankX = s.bankX ∧
      t.bankY = s.bankY ∧ t.mem = s.mem ∧ t.busAnswers = s.busAnswers ∧ t.ports = s.ports ∧ t.callLog = s.callLog ∧ t.cost = s.cost ∧
      t.freeCount = s.freeCount ∧ t.cfg = s.cfg := by
  obtain ⟨_, _, _, _, _, _, rfl⟩ := h
  exact ⟨rfl, rfl, rfl, rfl, rfl, rfl, rfl, rfl, rfl, rfl, rfl, rfl, rfl, rfl, rfl, rfl, rfl, rfl, rfl, rfl, rfl, rfl,
    rfl, rfl, rfl⟩

/-! ### Acceptance and return (60 R325, 44 R282) -/

/-- PC, SP, I, `halted` after an acceptance. -/
theorem accept_fields (i : Fin 14) (ret : Word) (s : State) :
    (accept i ret s).pc = entryAddress i ∧
      (accept i ret s).sp = (if 3 ≤ i.val ∨ s.cfg.nmFrameHasAf = true then s.sp - 2 - 2 else s.sp - 2) ∧
      (accept i ret s).f = setI false s.f ∧ (accept i ret s).halted = false ∧ (accept i ret s).gen = s.gen ∧
      (accept i ret s).ix = s.ix ∧ (accept i ret s).iy = s.iy ∧ (accept i ret s).afterEi = s.afterEi ∧
      (accept i ret s).cfg = s.cfg := by
  simp only [accept, pushFrame]
  refine ⟨by simp, ?_, ?_, by simp, ?_, ?_, ?_, ?_, ?_⟩ <;> split <;> split <;> simp_all

/-- An acceptance keeps the canonical form of memory. -/
theorem accept_mem_wf {s : State} (wf : s.mem.wf = true) (i : Fin 14) (ret : Word) : (accept i ret s).mem.wf = true := by
  have push : ∀ (v : Word) (u : State), u.mem.wf = true → (push16 v u).mem.wf = true := fun v u h =>
    write16_mem_wf (by simpa using h) _ v
  simp only [accept, pushFrame]
  split <;> split <;> simp [push, wf]

/-- RETI in terms of the two words on the stack. -/
theorem returnFromInterrupt_fields (s : State) :
    (returnFromInterrupt s).af = (read16 (bank0 s.sp) s).1 ∧ (returnFromInterrupt s).sp = s.sp + 2 + 2 ∧
      (returnFromInterrupt s).gen = s.gen ∧ (returnFromInterrupt s).ix = s.ix ∧ (returnFromInterrupt s).iy = s.iy ∧
      (returnFromInterrupt s).mem = s.mem ∧ (returnFromInterrupt s).halted = s.halted ∧
      (returnFromInterrupt s).afterEi = s.afterEi ∧ (returnFromInterrupt s).cfg = s.cfg := by
  simp [returnFromInterrupt, pop16]

/-! ### Fetch (30 R91) -/

/-- A byte fetched from an address that holds a byte: that byte, PC one further, nothing else. -/
theorem fetch8_holdsByte {s : State} (h : s.holdsByte (bank0 s.pc) = true) :
    fetch8 s = (s.mem.read (bank0 s.pc), s.setPc (s.pc + 1)) := by
  simp [fetch8, read8_holdsByte h]

/-! ### Ends of a meaning -/

/-- `done` answers a next state. -/
theorem done_next (s : State) (row dflt : Nat) : ∃ n, done s row dflt = .next (s.setCost n) := ⟨_, rfl⟩

/-- `doneIf` answers a next state. -/
theorem doneIf_next (r : State × Bool) (row a b : Nat) : ∃ n, doneIf r row a b = .next (r.1.setCost n) := ⟨_, rfl⟩

/-- A cost of a row is at least one cycle when the table's entry is (70 R395). -/
theorem cycles_pos (c : Params) (row : Nat) (outcome : Bool) {dflt : Nat} (h : 1 ≤ dflt) :
    1 ≤ Params.cycles c row outcome dflt := by
  unfold Params.cycles
  split <;> omega

end Sys2Proof.Machine
end

