-- ==== Sys2Proof/Laws/Host.lean ====
section
/-! SUPPORT. What the host's writes leave: of the shadow cells, the shadow they write and everything else; of a part of a timer,
the other parts and the other timers. -/

namespace Sys2Proof.Machine

@[simp] theorem State.setGenShadow_genShadow (s : State) (g : GenBank) : (s.setGenShadow g).genShadow = g := by
  unfold State.genShadow State.setGenShadow; cases h : s.gsel <;> simp

@[simp] theorem State.setGenShadow_gen (s : State) (g : GenBank) : (s.setGenShadow g).gen = s.gen := by
  unfold State.gen State.setGenShadow; cases h : s.gsel <;> simp

@[simp] theorem State.setGenShadow_af (s : State) (g : GenBank) : (s.setGenShadow g).af = s.af := rfl
@[simp] theorem State.setGenShadow_afShadow (s : State) (g : GenBank) : (s.setGenShadow g).afShadow = s.afShadow := rfl
@[simp] theorem State.setGenShadow_f (s : State) (g : GenBank) : (s.setGenShadow g).f = s.f := rfl

@[simp] theorem State.setAfShadow_afShadow (s : State) (w : Word) : (s.setAfShadow w).afShadow = w := by
  unfold State.afShadow State.setAfShadow; cases h : s.asel <;> simp

@[simp] theorem State.setAfShadow_af (s : State) (w : Word) : (s.setAfShadow w).af = s.af := by
  unfold State.af State.setAfShadow; cases h : s.asel <;> simp

@[simp] theorem State.setAfShadow_gen (s : State) (w : Word) : (s.setAfShadow w).gen = s.gen := rfl
@[simp] theorem State.setAfShadow_genShadow (s : State) (w : Word) : (s.setAfShadow w).genShadow = s.genShadow := rfl
@[simp] theorem State.setAfShadow_f (s : State) (w : Word) : (s.setAfShadow w).f = s.f := by simp [State.f]

@[simp] theorem State.setGenShadow_get8 (s : State) (g : GenBank) (r : Reg8) : (s.setGenShadow g).get8 r = s.get8 r := by
  cases r <;> simp [State.get8]
@[simp] theorem State.setGenShadow_get16 (s : State) (g : GenBank) (r : Reg16) : (s.setGenShadow g).get16 r = s.get16 r := by
  cases r <;> first | rfl | simp [State.get16]
@[simp] theorem State.setGenShadow_gsel (s : State) (g : GenBank) : (s.setGenShadow g).gsel = s.gsel := rfl
@[simp] theorem State.setGenShadow_asel (s : State) (g : GenBank) : (s.setGenShadow g).asel = s.asel := rfl
@[simp] theorem State.setGenShadow_ix (s : State) (g : GenBank) : (s.setGenShadow g).ix = s.ix := rfl
@[simp] theorem State.setGenShadow_iy (s : State) (g : GenBank) : (s.setGenShadow g).iy = s.iy := rfl
@[simp] theorem State.setGenShadow_sp (s : State) (g : GenBank) : (s.setGenShadow g).sp = s.sp := rfl
@[simp] theorem State.setGenShadow_pc (s : State) (g : GenBank) : (s.setGenShadow g).pc = s.pc := rfl
@[simp] theorem State.setGenShadow_halted (s : State) (g : GenBank) : (s.setGenShadow g).halted = s.halted := rfl
@[simp] theorem State.setGenShadow_afterEi (s : State) (g : GenBank) : (s.setGenShadow g).afterEi = s.afterEi := rfl
@[simp] theorem State.setGenShadow_residual (s : State) (g : GenBank) : (s.setGenShadow g).residual = s.residual := rfl
@[simp] theorem State.setGenShadow_pending (s : State) (g : GenBank) : (s.setGenShadow g).pending = s.pending := rfl
@[simp] theorem State.setGenShadow_mask (s : State) (g : GenBank) : (s.setGenShadow g).mask = s.mask := rfl
@[simp] theorem State.setGenShadow_line (s : State) (g : GenBank) : (s.setGenShadow g).line = s.line := rfl
@[simp] theorem State.setGenShadow_t0 (s : State) (g : GenBank) : (s.setGenShadow g).t0 = s.t0 := rfl
@[simp] theorem State.setGenShadow_t1 (s : State) (g : GenBank) : (s.setGenShadow g).t1 = s.t1 := rfl
@[simp] theorem State.setGenShadow_t2 (s : State) (g : GenBank) : (s.setGenShadow g).t2 = s.t2 := rfl
@[simp] theorem State.setGenShadow_t3 (s : State) (g : GenBank) : (s.setGenShadow g).t3 = s.t3 := rfl
@[simp] theorem State.setGenShadow_t4 (s : State) (g : GenBank) : (s.setGenShadow g).t4 = s.t4 := rfl
@[simp] theorem State.setGenShadow_bankX (s : State) (g : GenBank) : (s.setGenShadow g).bankX = s.bankX := rfl
@[simp] theorem State.setGenShadow_bankY (s : State) (g : GenBank) : (s.setGenShadow g).bankY = s.bankY := rfl
@[simp] theorem State.setGenShadow_mem (s : State) (g : GenBank) : (s.setGenShadow g).mem = s.mem := rfl
@[simp] theorem State.setGenShadow_busAnswers (s : State) (g : GenBank) : (s.setGenShadow g).busAnswers = s.busAnswers := rfl
@[simp] theorem State.setGenShadow_ports (s : State) (g : GenBank) : (s.setGenShadow g).ports = s.ports := rfl
@[simp] theorem State.setGenShadow_callLog (s : State) (g : GenBank) : (s.setGenShadow g).callLog = s.callLog := rfl
@[simp] theorem State.setGenShadow_cost (s : State) (g : GenBank) : (s.setGenShadow g).cost = s.cost := rfl
@[simp] theorem State.setGenShadow_freeCount (s : State) (g : GenBank) : (s.setGenShadow g).freeCount = s.freeCount := rfl
@[simp] theorem State.setGenShadow_cfg (s : State) (g : GenBank) : (s.setGenShadow g).cfg = s.cfg := rfl

@[simp] theorem State.setAfShadow_get8 (s : State) (w : Word) (r : Reg8) : (s.setAfShadow w).get8 r = s.get8 r := by
  cases r <;> simp [State.get8]
@[simp] theorem State.setAfShadow_get16 (s : State) (w : Word) (r : Reg16) : (s.setAfShadow w).get16 r = s.get16 r := by
  cases r <;> rfl
@[simp] theorem State.setAfShadow_gsel (s : State) (w : Word) : (s.setAfShadow w).gsel = s.gsel := rfl
@[simp] theorem State.setAfShadow_asel (s : State) (w : Word) : (s.setAfShadow w).asel = s.asel := rfl
@[simp] theorem State.setAfShadow_ix (s : State) (w : Word) : (s.setAfShadow w).ix = s.ix := rfl
@[simp] theorem State.setAfShadow_iy (s : State) (w : Word) : (s.setAfShadow w).iy = s.iy := rfl
@[simp] theorem State.setAfShadow_sp (s : State) (w : Word) : (s.setAfShadow w).sp = s.sp := rfl
@[simp] theorem State.setAfShadow_pc (s : State) (w : Word) : (s.setAfShadow w).pc = s.pc := rfl
@[simp] theorem State.setAfShadow_halted (s : State) (w : Word) : (s.setAfShadow w).halted = s.halted := rfl
@[simp] theorem State.setAfShadow_afterEi (s : State) (w : Word) : (s.setAfShadow w).afterEi = s.afterEi := rfl
@[simp] theorem State.setAfShadow_residual (s : State) (w : Word) : (s.setAfShadow w).residual = s.residual := rfl
@[simp] theorem State.setAfShadow_pending (s : State) (w : Word) : (s.setAfShadow w).pending = s.pending := rfl
@[simp] theorem State.setAfShadow_mask (s : State) (w : Word) : (s.setAfShadow w).mask = s.mask := rfl
@[simp] theorem State.setAfShadow_line (s : State) (w : Word) : (s.setAfShadow w).line = s.line := rfl
@[simp] theorem State.setAfShadow_t0 (s : State) (w : Word) : (s.setAfShadow w).t0 = s.t0 := rfl
@[simp] theorem State.setAfShadow_t1 (s : State) (w : Word) : (s.setAfShadow w).t1 = s.t1 := rfl
@[simp] theorem State.setAfShadow_t2 (s : State) (w : Word) : (s.setAfShadow w).t2 = s.t2 := rfl
@[simp] theorem State.setAfShadow_t3 (s : State) (w : Word) : (s.setAfShadow w).t3 = s.t3 := rfl
@[simp] theorem State.setAfShadow_t4 (s : State) (w : Word) : (s.setAfShadow w).t4 = s.t4 := rfl
@[simp] theorem State.setAfShadow_bankX (s : State) (w : Word) : (s.setAfShadow w).bankX = s.bankX := rfl
@[simp] theorem State.setAfShadow_bankY (s : State) (w : Word) : (s.setAfShadow w).bankY = s.bankY := rfl
@[simp] theorem State.setAfShadow_mem (s : State) (w : Word) : (s.setAfShadow w).mem = s.mem := rfl
@[simp] theorem State.setAfShadow_busAnswers (s : State) (w : Word) : (s.setAfShadow w).busAnswers = s.busAnswers := rfl
@[simp] theorem State.setAfShadow_ports (s : State) (w : Word) : (s.setAfShadow w).ports = s.ports := rfl
@[simp] theorem State.setAfShadow_callLog (s : State) (w : Word) : (s.setAfShadow w).callLog = s.callLog := rfl
@[simp] theorem State.setAfShadow_cost (s : State) (w : Word) : (s.setAfShadow w).cost = s.cost := rfl
@[simp] theorem State.setAfShadow_freeCount (s : State) (w : Word) : (s.setAfShadow w).freeCount = s.freeCount := rfl
@[simp] theorem State.setAfShadow_cfg (s : State) (w : Word) : (s.setAfShadow w).cfg = s.cfg := rfl

/-- A replaced 8-bit timer reads as what replaced it; the others as before. -/
@[simp] theorem State.setTimer8_timer8 (s : State) (i j : Fin 4) (u : Timer8) :
    (s.setTimer8 i u).timer8 j = if j = i then u else s.timer8 j := by
  revert i j; simp [Fin.forall_fin_succ, State.timer8, State.setTimer8]

/-- A host write of a part of an 8-bit timer leaves the other parts. -/
theorem Timer8.get_set_of_ne (u : Timer8) (w : Word) {j k : TimerField} (h : j ≠ k) : (u.set k w).get j = u.get j := by
  cases j <;> cases k <;> first | rfl | exact absurd rfl h

/-- A host write of a part of timer 4 leaves the other parts. -/
theorem Timer16.get_set_of_ne (u : Timer16) (w : Word) {j k : TimerField} (h : j ≠ k) : (u.set k w).get j = u.get j := by
  cases j <;> cases k <;> first | rfl | exact absurd rfl h

/-- The prescaler stays in 0..255 whatever the host writes. -/
theorem Timer8.set_presc_le (u : Timer8) (k : TimerField) (w : Word) (h : u.presc.toNat ≤ 255) : (u.set k w).presc.toNat ≤ 255 := by
  cases k <;> first | exact h | (simp only [Timer8.set, BitVec.toNat_setWidth]; have := (loByte w).isLt; omega)

/-- The prescaler of timer 4 stays in 0..255 whatever the host writes. -/
theorem Timer16.set_presc_le (u : Timer16) (k : TimerField) (w : Word) (h : u.presc.toNat ≤ 255) : (u.set k w).presc.toNat ≤ 255 := by
  cases k <;> first | exact h | (simp only [Timer16.set, BitVec.toNat_setWidth]; have := (loByte w).isLt; omega)

end Sys2Proof.Machine
end

