-- ==== Sys2Proof/Tests/Slice0.lean ====
section
/-! SUPPORT. The model's own tests: the refusals of WellFormed, one encoding of every constructor written out bit by bit
from spec 30, single steps with the values of spec 95, and a witness for the hypotheses of every statement. -/

set_option maxRecDepth 20000

namespace Sys2Proof.Tests

open Sys2Proof.Machine

/-! ### WellFormed: what each check refuses (10 R32, 30 R90, R109) -/

theorem test_wf_r_code_7 : (RawField.r 7).wellFormed = false ∧ (RawField.r 6).wellFormed = true := by decide
theorem test_wf_gg_codes_3_7 : (RawField.gg 3).wellFormed = false ∧ (RawField.gg 7).wellFormed = false ∧ (RawField.gg 6).wellFormed = true := by decide
theorem test_wf_qq_codes_3_7 : (RawField.qq 3).wellFormed = false ∧ (RawField.qq 7).wellFormed = false ∧ (RawField.qq 6).wellFormed = true := by decide
theorem test_wf_ix_code_3 : (RawField.ix 3).wellFormed = false ∧ (RawField.ix 2).wellFormed = true := by decide
theorem test_wf_length : lengthWellFormed 0 = false ∧ lengthWellFormed 7 = false ∧ lengthWellFormed 1 = true ∧ lengthWellFormed 6 = true := by decide
theorem test_wf_lda_operand : (Instr.lda .hl (.gg .bc)).wellFormed = false ∧ (Instr.lda .hl (.mn 0)).wellFormed = false ∧
    (Instr.lda .hl (.dp 0)).wellFormed = false ∧ (Instr.lda .hl .hla).wellFormed = true := by decide

/-! ### Decode: refused encodings (30 R117, R118, spec 95 T51) -/

theorem test_decode_unknown_base : decode [0x04] = .unknown 1 ∧ decode [0x3B] = .unknown 1 ∧ decode [0x57] = .unknown 1 ∧ decode [0xD0] = .unknown 1 := by decide
theorem test_decode_unknown_sub : decode [0xE2, 0x17] = .unknown 2 ∧ decode [0xE7, 0x40, 0x2F] = .unknown 3 ∧
    decode [0xEB, 0x00, 0x10, 0x38] = .unknown 4 ∧ decode [0xF0, 0x01, 0x17] = .unknown 3 ∧ decode [0xFB, 0x70] = .unknown 2 ∧
    decode [0xF8, 0x58] = .unknown 2 ∧ decode [0xF8, 0xD8] = .unknown 2 ∧ decode [0xFE, 0x37] = .unknown 2 := by decide
theorem test_decode_short : decode [] = .short ∧ decode [0x38, 0x01] = .short ∧ decode [0xEB, 0x00, 0x10, 0x3F, 0x34] = .short := by decide

/-! ### Decode: an encoding of every constructor, written out from spec 30 R94 to R110 -/

theorem test_decode_system_1 :
    decode [0b00000000] = .instr .nop 1 ∧
    decode [0b00000001] = .instr .halt 1 ∧
    decode [0b00000010] = .instr .di 1 ∧
    decode [0b00000011] = .instr .ei 1 ∧
    decode [0b11111111] = .instr .swi 1 := by decide
theorem test_decode_incdec_1 :
    decode [0b00000111, 0b10100101] = .instr (.incx 0xA5) 2 ∧
    decode [0b00001011] = .instr .daa 1 ∧
    decode [0b00001111, 0b01001101] = .instr (.decx 0x4D) 2 ∧
    decode [0b00010000] = .instr .cpl 1 ∧
    decode [0b00010001] = .instr .neg 1 ∧
    decode [0b10000101] = .instr (.incR .l) 1 ∧
    decode [0b10000111, 0b10011110] = .instr (.incAtU 0x9E) 2 ∧
    decode [0b10001101] = .instr (.decR .l) 1 ∧
    decode [0b10001111, 0b11100100] = .instr (.decAtU 0xE4) 2 ∧
    decode [0b10010010] = .instr (.incG .hl) 1 ∧
    decode [0b10010111, 0b11000101] = .instr (.incwAtU 0xC5) 2 ∧
    decode [0b10011110] = .instr (.decG .sp) 1 := by decide
theorem test_decode_incdec_2 :
    decode [0b10011111, 0b10110001] = .instr (.decwAtU 0xB1) 2 ∧
    decode [0b11100001, 0b10000111] = .instr (.incAt (.gg .de)) 2 ∧
    decode [0b11110011, 0b10001111] = .instr (.decAt .hla) 2 ∧
    decode [0b11100111, 0b11010110, 0b10010111] = .instr (.incwAt (.dp 0xD6)) 3 ∧
    decode [0b11100101, 0b10011111] = .instr (.decwAt (.gg .iy)) 2 := by decide
theorem test_decode_load_1 :
    decode [0b00001000] = .instr .exDeHl 1 ∧
    decode [0b00001001] = .instr .exAfAf 1 ∧
    decode [0b00001010] = .instr .exx 1 ∧
    decode [0b00010111, 0b00011101, 0b01101101] = .instr (.ldar 0x6D1D) 3 ∧
    decode [0b00100001] = .instr (.ldAR .c) 1 ∧
    decode [0b00100111, 0b00011111] = .instr (.ldAAtU 0x1F) 2 ∧
    decode [0b00101100] = .instr (.ldRA .h) 1 ∧
    decode [0b00101111, 0b11001011] = .instr (.ldAtUA 0xCB) 2 ∧
    decode [0b00110000, 0b01110001] = .instr (.ldRN .b 0x71) 2 ∧
    decode [0b00110111, 0b00010111, 0b01000100] = .instr (.ldAtUN 0x17 0x44) 3 ∧
    decode [0b00111010, 0b11010110, 0b01001001] = .instr (.ldGW .hl 0x49D6) 3 ∧
    decode [0b00111111, 0b00111100, 0b10011101, 0b01011100] = .instr (.ldwAtU 0x3C 0x5C9D) 4 := by decide
theorem test_decode_load_2 :
    decode [0b01000000] = .instr (.ldHlG .bc) 1 ∧
    decode [0b01000111, 0b01100000] = .instr (.ldHlAtU 0x60) 2 ∧
    decode [0b01001010] = .instr (.ldGHl .hl) 1 ∧
    decode [0b01001111, 0b00110001] = .instr (.ldAtUHl 0x31) 2 ∧
    decode [0b01010101] = .instr (.push .iy) 1 ∧
    decode [0b01011110] = .instr (.pop .af) 1 ∧
    decode [0b11100100, 0b00101011] = .instr (.ldRAt .e (.gg .ix)) 2 ∧
    decode [0b11110010, 0b10001110, 0b01001001] = .instr (.ldGAt .de (.xd .sp 0x8E)) 3 ∧
    decode [0b11100011, 0b11011100, 0b10001110, 0b01010110] = .instr (.exAt (.mn 0x8EDC) .sp) 4 ∧
    decode [0b11110101, 0b01010011, 0b00100000] = .instr (.ldAtR (.xd .iy 0x53) .b) 3 ∧
    decode [0b11101111, 0b10101110, 0b00110111, 0b00011010] = .instr (.ldAtN (.dp 0xAE) 0x1A) 4 ∧
    decode [0b11101000, 0b00111111, 0b00000000, 0b01001101] = .instr (.ldwAt (.gg .bc) 0x4D00) 4 := by decide
theorem test_decode_load_3 :
    decode [0b11110110, 0b00110011, 0b01000010] = .instr (.ldAtG (.xd .sp 0x33) .hl) 3 ∧
    decode [0b11110111, 0b00111110] = .instr (.lda .sp .hla) 2 ∧
    decode [0b11111001, 0b00110100] = .instr (.ldRR .h .c) 2 ∧
    decode [0b11111010, 0b00111001] = .instr (.ldGG .de .hl) 2 := by decide
theorem test_decode_bit_1 :
    decode [0b00001100] = .instr .rcf 1 ∧
    decode [0b00001101] = .instr .scf 1 ∧
    decode [0b00001110] = .instr .ccf 1 ∧
    decode [0b10101000, 0b11101100] = .instr (.bitAtU 0 0xEC) 2 ∧
    decode [0b10110101, 0b01010110] = .instr (.resAtU 5 0x56) 2 ∧
    decode [0b10111001, 0b11111100] = .instr (.setAtU 1 0xFC) 2 ∧
    decode [0b11100011, 0b11111110, 0b00101001, 0b00011010] = .instr (.tsetAt 2 (.mn 0x29FE)) 4 ∧
    decode [0b11110011, 0b10101110] = .instr (.bitAt 6 .hla) 2 ∧
    decode [0b11100111, 0b00011111, 0b10110011] = .instr (.resAt 3 (.dp 0x1F)) 3 ∧
    decode [0b11100000, 0b10111011] = .instr (.setAt 3 (.gg .bc)) 2 ∧
    decode [0b11111100, 0b00011000] = .instr (.tsetR 0 .h) 2 ∧
    decode [0b11111100, 0b10101101] = .instr (.bitR 5 .h) 2 := by decide
theorem test_decode_bit_2 :
    decode [0b11111011, 0b10110101] = .instr (.resR 5 .e) 2 ∧
    decode [0b11111010, 0b10111001] = .instr (.setR 1 .d) 2 := by decide
theorem test_decode_muldiv_1 :
    decode [0b00010010, 0b11001010] = .instr (.mulN 0xCA) 2 ∧
    decode [0b00010011, 0b00011000] = .instr (.divN 0x18) 2 ∧
    decode [0b11100111, 0b01000010, 0b00010010] = .instr (.mulAt (.dp 0x42)) 3 ∧
    decode [0b11100110, 0b00010011] = .instr (.divAt (.gg .sp)) 2 ∧
    decode [0b11111010, 0b00010010] = .instr (.mulR .d) 2 ∧
    decode [0b11111011, 0b00010011] = .instr (.divR .e) 2 := by decide
theorem test_decode_alu16_1 :
    decode [0b00010100, 0b00110000, 0b10111011] = .instr (.addXW .ix 0xBB30) 3 ∧
    decode [0b01110000, 0b01101001] = .instr (.addHlAtU 0x69) 2 ∧
    decode [0b01111000, 0b11111110, 0b11011010] = .instr (.addHlW 0xDAFE) 3 ∧
    decode [0b01110001, 0b11101000] = .instr (.adcHlAtU 0xE8) 2 ∧
    decode [0b01111001, 0b10111001, 0b10011001] = .instr (.adcHlW 0x99B9) 3 ∧
    decode [0b01110010, 0b01111100] = .instr (.subHlAtU 0x7C) 2 ∧
    decode [0b01111010, 0b00101001, 0b10011001] = .instr (.subHlW 0x9929) 3 ∧
    decode [0b01110011, 0b11100101] = .instr (.sbcHlAtU 0xE5) 2 ∧
    decode [0b01111011, 0b10010011, 0b00100101] = .instr (.sbcHlW 0x2593) 3 ∧
    decode [0b01110100, 0b01010100] = .instr (.andHlAtU 0x54) 2 ∧
    decode [0b01111100, 0b10101111, 0b01001101] = .instr (.andHlW 0x4DAF) 3 ∧
    decode [0b01110101, 0b00010100] = .instr (.xorHlAtU 0x14) 2 := by decide
theorem test_decode_alu16_2 :
    decode [0b01111101, 0b00100111, 0b10100000] = .instr (.xorHlW 0xA027) 3 ∧
    decode [0b01110110, 0b11111110] = .instr (.orHlAtU 0xFE) 2 ∧
    decode [0b01111110, 0b11101001, 0b00100011] = .instr (.orHlW 0x23E9) 3 ∧
    decode [0b01110111, 0b11110010] = .instr (.cpHlAtU 0xF2) 2 ∧
    decode [0b01111111, 0b00100001, 0b00011111] = .instr (.cpHlW 0x1F21) 3 ∧
    decode [0b11110000, 0b11001011, 0b00010101] = .instr (.addXAt .iy (.xd .ix 0xCB)) 3 ∧
    decode [0b11100111, 0b11010100, 0b01110000] = .instr (.addHlAt (.dp 0xD4)) 3 ∧
    decode [0b11110011, 0b01110001] = .instr (.adcHlAt .hla) 2 ∧
    decode [0b11100001, 0b01110010] = .instr (.subHlAt (.gg .de)) 2 ∧
    decode [0b11100111, 0b01001101, 0b01110011] = .instr (.sbcHlAt (.dp 0x4D)) 3 ∧
    decode [0b11110010, 0b01110111, 0b01110100] = .instr (.andHlAt (.xd .sp 0x77)) 3 ∧
    decode [0b11110011, 0b01110101] = .instr (.xorHlAt .hla) 2 := by decide
theorem test_decode_alu16_3 :
    decode [0b11100011, 0b10000110, 0b10010000, 0b01110110] = .instr (.orHlAt (.mn 0x9086)) 4 ∧
    decode [0b11100111, 0b00000010, 0b01110111] = .instr (.cpHlAt (.dp 0x02)) 3 ∧
    decode [0b11111110, 0b00010100] = .instr (.addXG .ix .sp) 2 ∧
    decode [0b11111101, 0b01110000] = .instr (.addHlG .iy) 2 ∧
    decode [0b11111110, 0b01110001] = .instr (.adcHlG .sp) 2 ∧
    decode [0b11111001, 0b01110010] = .instr (.subHlG .de) 2 ∧
    decode [0b11111101, 0b01110011] = .instr (.sbcHlG .iy) 2 ∧
    decode [0b11111110, 0b01110100] = .instr (.andHlG .sp) 2 ∧
    decode [0b11111001, 0b01110101] = .instr (.xorHlG .de) 2 ∧
    decode [0b11111001, 0b01110110] = .instr (.orHlG .de) 2 ∧
    decode [0b11111110, 0b01110111] = .instr (.cpHlG .sp) 2 := by decide
theorem test_decode_control_1 :
    decode [0b00011000, 0b00010011] = .instr (.djnz 0x13) 2 ∧
    decode [0b00011001, 0b00101100] = .instr (.djnzBc 0x2C) 2 ∧
    decode [0b00011010, 0b11011110, 0b11010110] = .instr (.jp 0xD6DE) 3 ∧
    decode [0b00011011, 0b00100011, 0b01111011] = .instr (.jrl 0x7B23) 3 ∧
    decode [0b00011100, 0b00101110, 0b11011001] = .instr (.call 0xD92E) 3 ∧
    decode [0b00011101, 0b00011110, 0b00111111] = .instr (.callr 0x3F1E) 3 ∧
    decode [0b00011110] = .instr .ret 1 ∧
    decode [0b00011111] = .instr .reti 1 ∧
    decode [0b11000001, 0b01101111] = .instr (.jr .lt 0x6F) 2 ∧
    decode [0b11101111, 0b00101011, 0b11000100] = .instr (.jpCc .ov (.dp 0x2B)) 3 ∧
    decode [0b11101000, 0b11011010] = .instr (.callCc .gt (.gg .bc)) 2 ∧
    decode [0b11111110, 0b11010111] = .instr (.retCc .c) 2 := by decide
theorem test_decode_alu8_1 :
    decode [0b01100000, 0b00100000] = .instr (.addAAtU 0x20) 2 ∧
    decode [0b01101000, 0b00011110] = .instr (.addAN 0x1E) 2 ∧
    decode [0b01100001, 0b10100000] = .instr (.adcAAtU 0xA0) 2 ∧
    decode [0b01101001, 0b11101110] = .instr (.adcAN 0xEE) 2 ∧
    decode [0b01100010, 0b01111111] = .instr (.subAAtU 0x7F) 2 ∧
    decode [0b01101010, 0b01011100] = .instr (.subAN 0x5C) 2 ∧
    decode [0b01100011, 0b11111101] = .instr (.sbcAAtU 0xFD) 2 ∧
    decode [0b01101011, 0b10101111] = .instr (.sbcAN 0xAF) 2 ∧
    decode [0b01100100, 0b00111100] = .instr (.andAAtU 0x3C) 2 ∧
    decode [0b01101100, 0b11010110] = .instr (.andAN 0xD6) 2 ∧
    decode [0b01100101, 0b11111010] = .instr (.xorAAtU 0xFA) 2 ∧
    decode [0b01101101, 0b11010111] = .instr (.xorAN 0xD7) 2 := by decide
theorem test_decode_alu8_2 :
    decode [0b01100110, 0b10101110] = .instr (.orAAtU 0xAE) 2 ∧
    decode [0b01101110, 0b10110011] = .instr (.orAN 0xB3) 2 ∧
    decode [0b01100111, 0b00101111] = .instr (.cpAAtU 0x2F) 2 ∧
    decode [0b01101111, 0b10001010] = .instr (.cpAN 0x8A) 2 ∧
    decode [0b11110011, 0b01100000] = .instr (.addAAt .hla) 2 ∧
    decode [0b11100011, 0b10110111, 0b11000010, 0b01100001] = .instr (.adcAAt (.mn 0xC2B7)) 4 ∧
    decode [0b11100111, 0b01110110, 0b01100010] = .instr (.subAAt (.dp 0x76)) 3 ∧
    decode [0b11110000, 0b01011010, 0b01100011] = .instr (.sbcAAt (.xd .ix 0x5A)) 3 ∧
    decode [0b11100001, 0b01100100] = .instr (.andAAt (.gg .de)) 2 ∧
    decode [0b11100011, 0b00000110, 0b11111000, 0b01100101] = .instr (.xorAAt (.mn 0xF806)) 4 ∧
    decode [0b11110010, 0b01011101, 0b01100110] = .instr (.orAAt (.xd .sp 0x5D)) 3 ∧
    decode [0b11110011, 0b01100111] = .instr (.cpAAt .hla) 2 := by decide
theorem test_decode_alu8_3 :
    decode [0b11101011, 0b00001101, 0b00100100, 0b01101000, 0b01101010] = .instr (.addAtN (.mn 0x240D) 0x6A) 5 ∧
    decode [0b11110111, 0b01101001, 0b11000000] = .instr (.adcAtN .hla 0xC0) 3 ∧
    decode [0b11110100, 0b10000001, 0b01101010, 0b10110001] = .instr (.subAtN (.xd .ix 0x81) 0xB1) 4 ∧
    decode [0b11101011, 0b10111010, 0b11110010, 0b01101011, 0b00111110] = .instr (.sbcAtN (.mn 0xF2BA) 0x3E) 5 ∧
    decode [0b11110111, 0b01101100, 0b00111011] = .instr (.andAtN .hla 0x3B) 3 ∧
    decode [0b11101111, 0b11111001, 0b01101101, 0b11101110] = .instr (.xorAtN (.dp 0xF9) 0xEE) 4 ∧
    decode [0b11101100, 0b01101110, 0b11110111] = .instr (.orAtN (.gg .ix) 0xF7) 3 ∧
    decode [0b11110111, 0b01101111, 0b10011111] = .instr (.cpAtN .hla 0x9F) 3 ∧
    decode [0b11111101, 0b01100000] = .instr (.addAR .l) 2 ∧
    decode [0b11111100, 0b01101000, 0b00001101] = .instr (.addRN .h 0x0D) 3 ∧
    decode [0b11111010, 0b01100001] = .instr (.adcAR .d) 2 ∧
    decode [0b11111101, 0b01101001, 0b00101110] = .instr (.adcRN .l 0x2E) 3 := by decide
theorem test_decode_alu8_4 :
    decode [0b11111110, 0b01100010] = .instr (.subAR .a) 2 ∧
    decode [0b11111010, 0b01101010, 0b10111011] = .instr (.subRN .d 0xBB) 3 ∧
    decode [0b11111010, 0b01100011] = .instr (.sbcAR .d) 2 ∧
    decode [0b11111110, 0b01101011, 0b01110010] = .instr (.sbcRN .a 0x72) 3 ∧
    decode [0b11111100, 0b01100100] = .instr (.andAR .h) 2 ∧
    decode [0b11111110, 0b01101100, 0b10101000] = .instr (.andRN .a 0xA8) 3 ∧
    decode [0b11111001, 0b01100101] = .instr (.xorAR .c) 2 ∧
    decode [0b11111100, 0b01101101, 0b01100011] = .instr (.xorRN .h 0x63) 3 ∧
    decode [0b11111110, 0b01100110] = .instr (.orAR .a) 2 ∧
    decode [0b11111011, 0b01101110, 0b01110100] = .instr (.orRN .e 0x74) 3 ∧
    decode [0b11111100, 0b01100111] = .instr (.cpAR .h) 2 ∧
    decode [0b11111011, 0b01101111, 0b10110110] = .instr (.cpRN .e 0xB6) 3 := by decide
theorem test_decode_rotate_1 :
    decode [0b10100000] = .instr .rlca 1 ∧
    decode [0b10100001] = .instr .rrca 1 ∧
    decode [0b10100010] = .instr .rla 1 ∧
    decode [0b10100011] = .instr .rra 1 ∧
    decode [0b10100100] = .instr .slaa 1 ∧
    decode [0b10100101] = .instr .sraa 1 ∧
    decode [0b10100110] = .instr .slla 1 ∧
    decode [0b10100111] = .instr .srla 1 ∧
    decode [0b11100010, 0b00010000] = .instr (.rldAt (.gg .hl)) 2 ∧
    decode [0b11110011, 0b00010001] = .instr (.rrdAt .hla) 2 ∧
    decode [0b11110001, 0b10100011, 0b10100000] = .instr (.rlcAt (.xd .iy 0xA3)) 3 ∧
    decode [0b11100011, 0b01000000, 0b00011011, 0b10100001] = .instr (.rrcAt (.mn 0x1B40)) 4 := by decide
theorem test_decode_rotate_2 :
    decode [0b11100100, 0b10100010] = .instr (.rlAt (.gg .ix)) 2 ∧
    decode [0b11110010, 0b11001000, 0b10100011] = .instr (.rrAt (.xd .sp 0xC8)) 3 ∧
    decode [0b11100011, 0b11001011, 0b11001100, 0b10100100] = .instr (.slaAt (.mn 0xCCCB)) 4 ∧
    decode [0b11110011, 0b10100101] = .instr (.sraAt .hla) 2 ∧
    decode [0b11100111, 0b11001001, 0b10100110] = .instr (.sllAt (.dp 0xC9)) 3 ∧
    decode [0b11100011, 0b00110101, 0b11110110, 0b10100111] = .instr (.srlAt (.mn 0xF635)) 4 ∧
    decode [0b11111000, 0b10100000] = .instr (.rlcR .b) 2 ∧
    decode [0b11111000, 0b10100001] = .instr (.rrcR .b) 2 ∧
    decode [0b11111110, 0b10100010] = .instr (.rlR .a) 2 ∧
    decode [0b11111010, 0b10100011] = .instr (.rrR .d) 2 ∧
    decode [0b11111011, 0b10100100] = .instr (.slaR .e) 2 ∧
    decode [0b11111010, 0b10100101] = .instr (.sraR .d) 2 := by decide
theorem test_decode_rotate_3 :
    decode [0b11111001, 0b10100110] = .instr (.sllR .c) 2 ∧
    decode [0b11111101, 0b10100111] = .instr (.srlR .l) 2 := by decide
theorem test_decode_block_1 :
    decode [0b11111110, 0b01011000] = .instr .ldi 2 ∧
    decode [0b11111110, 0b01011001] = .instr .ldir 2 ∧
    decode [0b11111110, 0b01011010] = .instr .ldd 2 ∧
    decode [0b11111110, 0b01011011] = .instr .lddr 2 ∧
    decode [0b11111110, 0b01011100] = .instr .cpi 2 ∧
    decode [0b11111110, 0b01011101] = .instr .cpir 2 ∧
    decode [0b11111110, 0b01011110] = .instr .cpd 2 ∧
    decode [0b11111110, 0b01011111] = .instr .cpdr 2 := by decide

/-! ### Words of the opcode table (log entry 1) -/

theorem test_table_words : decodeTableWord 8 0x00 = some .nop ∧ decodeTableWord 16 0x0742 = some (.incx 0x42) ∧
    decodeTableWord 24 0x383412 = some (.ldGW .bc 0x1234) ∧ decodeTableWord 32 0xE3001010 = some (.rldAt (.mn 0x1000)) ∧
    decodeTableWord 16 0xF7D6 = some (.callCc .z .hla) ∧ decodeTableWord 8 0x04 = none := by decide

/-! ### Single steps: the values of spec 95 (sections 1 and 2) -/

/-- The start of a vector of spec 95: PC = 0x0100, SP = 0x2000, these bytes at PC, all else as after reset. -/
def code (bs : List Byte) : State := { State.reset with pc := 0x0100, sp := 0x2000, mem := placeBytes bs 0x0100 ⟨[]⟩ }

/-- A byte of memory. -/
def poke (a : Addr) (v : Byte) (s : State) : State := s.setMem (s.mem.write a v)

/-- The step from `s` answers a next state of which `p` holds. -/
def after (s : State) (p : State → Bool) : Bool :=
  match step s with
  | .next t => p t
  | _ => false

theorem test_add_f8_60 :
    after (((code [0xF8, 0x60]).set8 .a 0x3C).set8 .b 0x01)
      (fun t => t.get8 .a == 0x3D && t.pc == 0x0102 && t.f == 0x00 && t.cost == 4) = true := by decide
theorem test_add_78_01_00 :
    after ((code [0x78, 0x01, 0x00]).set16 .hl 0xFFFF)
      (fun t => t.get16 .hl == 0x0000 && t.pc == 0x0103 && t.f == 0x59 && t.cost == 6) = true := by decide
theorem test_djnz_18_10 :
    after ((code [0x18, 0x10]).set8 .b 0x01)
      (fun t => t.get16 .bc == 0x0000 && t.pc == 0x0102 && t.f == 0x00 && t.cost == 6) = true := by decide
theorem test_djnz_18_10b :
    after ((code [0x18, 0x10]).set8 .b 0x00)
      (fun t => t.get16 .bc == 0xFF00 && t.pc == 0x0112 && t.f == 0x00 && t.cost == 10) = true := by decide
theorem test_exx_0a :
    after ((fun s : State => s.setGenShadow { s.genShadow with hl := 0xCCCC }) ((fun s : State => s.setGenShadow { s.genShadow with de := 0xBBBB }) ((fun s : State => s.setGenShadow { s.genShadow with bc := 0xAAAA }) ((((code [0x0A]).set16 .bc 0x1111).set16 .de 0x2222).set16 .hl 0x3333))))
      (fun t => t.get16 .bc == 0xAAAA && t.get16 .de == 0xBBBB && t.get16 .hl == 0xCCCC && t.pc == 0x0101 && t.genShadow.bc == 0x1111 && t.genShadow.de == 0x2222 && t.genShadow.hl == 0x3333 && t.f == 0x00 && t.cost == 2) = true := by decide
theorem test_ld_20 :
    after ((code [0x20]).set8 .b 0x12)
      (fun t => t.get8 .a == 0x12 && t.pc == 0x0101 && t.f == 0x00 && t.cost == 2) = true := by decide
theorem test_ld_3e_00_30 :
    after (code [0x3E, 0x00, 0x30])
      (fun t => t.get16 .sp == 0x3000 && t.pc == 0x0103 && t.f == 0x00 && t.cost == 6) = true := by decide
theorem test_ldw_3f_60_34_12 :
    after (code [0x3F, 0x60, 0x34, 0x12])
      (fun t => t.pc == 0x0104 && t.f == 0x00 && t.mem.read 0xFF60 == 0x34 && t.mem.read 0xFF61 == 0x12 && t.cost == 14) = true := by decide
theorem test_lda_f4_05_3a :
    after ((code [0xF4, 0x05, 0x3A]).set16 .ix 0x1000)
      (fun t => t.get16 .hl == 0x1005 && t.pc == 0x0103 && t.f == 0x00 && t.cost == 10) = true := by decide
theorem test_lda_f7_39 :
    after (((code [0xF7, 0x39]).set16 .hl 0x1000).set8 .a 0xFF)
      (fun t => t.get16 .de == 0x0FFF && t.pc == 0x0102 && t.f == 0x00 && t.cost == 14) = true := by decide
theorem test_ldar_17_10_00 :
    after (code [0x17, 0x10, 0x00])
      (fun t => t.get16 .hl == 0x0113 && t.pc == 0x0103 && t.f == 0x00 && t.cost == 8) = true := by decide
theorem test_push_50 :
    after ((code [0x50]).set16 .bc 0x1234)
      (fun t => t.get16 .sp == 0x1FFE && t.pc == 0x0101 && t.f == 0x00 && t.mem.read 0x1FFE == 0x34 && t.mem.read 0x1FFF == 0x12 && t.cost == 8) = true := by decide
theorem test_push_50b :
    after (((code [0x50]).set16 .sp 0x0000).set16 .bc 0x1234)
      (fun t => t.get16 .sp == 0xFFFE && t.pc == 0x0101 && t.f == 0x00 && t.mem.read 0xFFFE == 0x34 && t.mem.read 0xFFFF == 0x12 && t.cost == 8) = true := by decide
theorem test_pop_5a :
    after (poke 0x1FFF 0xAB (poke 0x1FFE 0xCD ((code [0x5A]).set16 .sp 0x1FFE)))
      (fun t => t.get16 .hl == 0xABCD && t.get16 .sp == 0x2000 && t.pc == 0x0101 && t.f == 0x00 && t.cost == 10) = true := by decide
theorem test_pop_5e :
    after (poke 0x1FFF 0x99 (poke 0x1FFE 0x20 ((code [0x5E]).set16 .sp 0x1FFE)))
      (fun t => t.get8 .a == 0x99 && t.get16 .sp == 0x2000 && t.pc == 0x0101 && t.f == 0x20 && t.cost == 10) = true := by decide
theorem test_ex_08 :
    after (((code [0x08]).set16 .de 0x1111).set16 .hl 0x2222)
      (fun t => t.get16 .de == 0x2222 && t.get16 .hl == 0x1111 && t.pc == 0x0101 && t.f == 0x00 && t.cost == 2) = true := by decide
theorem test_ex_f2_00_52 :
    after (poke 0x2001 0x12 (poke 0x2000 0x34 (((code [0xF2, 0x00, 0x52]).set16 .sp 0x2000).set16 .hl 0xAAAA)))
      (fun t => t.get16 .hl == 0x1234 && t.pc == 0x0103 && t.f == 0x00 && t.mem.read 0x2000 == 0xAA && t.mem.read 0x2001 == 0xAA && t.cost == 18) = true := by decide
theorem test_ldi_fe_58 :
    after (poke 0x4000 0xAA (((((code [0xFE, 0x58]).set16 .hl 0x4000).set16 .de 0x5000).set16 .bc 0x0002).setF 0xFF))
      (fun t => t.get16 .bc == 0x0001 && t.get16 .de == 0x5001 && t.get16 .hl == 0x4001 && t.pc == 0x0102 && t.f == 0xED && t.mem.read 0x5000 == 0xAA && t.cost == 14) = true := by decide
theorem test_ldd_fe_5a :
    after (poke 0x4000 0xAA ((((code [0xFE, 0x5A]).set16 .hl 0x4000).set16 .de 0x5000).set16 .bc 0x0000))
      (fun t => t.get16 .bc == 0xFFFF && t.get16 .de == 0x4FFF && t.get16 .hl == 0x3FFF && t.pc == 0x0102 && t.f == 0x04 && t.mem.read 0x5000 == 0xAA && t.cost == 14) = true := by decide
theorem test_ldir_fe_59 :
    after (poke 0x4002 0x03 (poke 0x4001 0x02 (poke 0x4000 0x01 ((((code [0xFE, 0x59]).set16 .hl 0x4000).set16 .de 0x5000).set16 .bc 0x0003))))
      (fun t => t.get16 .bc == 0x0002 && t.get16 .de == 0x5001 && t.get16 .hl == 0x4001 && t.f == 0x04 && t.mem.read 0x5000 == 0x01 && t.pc == 0x0100 && t.cost == 18) = true := by decide
theorem test_cpi_fe_5c :
    after (poke 0x4000 0x42 ((((code [0xFE, 0x5C]).set8 .a 0x42).set16 .hl 0x4000).set16 .bc 0x0005))
      (fun t => t.get16 .bc == 0x0004 && t.get16 .hl == 0x4001 && t.pc == 0x0102 && t.f == 0x46 && t.cost == 14) = true := by decide
theorem test_cpi_fe_5cb :
    after (poke 0x4000 0x43 ((((code [0xFE, 0x5C]).set8 .a 0x42).set16 .hl 0x4000).set16 .bc 0x0001))
      (fun t => t.get16 .bc == 0x0000 && t.get16 .hl == 0x4001 && t.pc == 0x0102 && t.f == 0x92 && t.cost == 14) = true := by decide
theorem test_cpd_fe_5e :
    after (poke 0x4000 0x01 (((((code [0xFE, 0x5E]).set8 .a 0x00).set16 .hl 0x4000).set16 .bc 0x0002).setF 0x01))
      (fun t => t.get16 .bc == 0x0001 && t.get16 .hl == 0x3FFF && t.pc == 0x0102 && t.f == 0x97 && t.cost == 14) = true := by decide
theorem test_adc_69_00 :
    after (((code [0x69, 0x00]).set8 .a 0xFF).setF 0x01)
      (fun t => t.get8 .a == 0x00 && t.pc == 0x0102 && t.f == 0x59 && t.cost == 4) = true := by decide
theorem test_adc_79_00_00 :
    after (((code [0x79, 0x00, 0x00]).set16 .hl 0xFFFF).setF 0x01)
      (fun t => t.get16 .hl == 0x0000 && t.pc == 0x0103 && t.f == 0x59 && t.cost == 6) = true := by decide
theorem test_sub_6a_01 :
    after ((code [0x6A, 0x01]).set8 .a 0x00)
      (fun t => t.get8 .a == 0xFF && t.pc == 0x0102 && t.f == 0x9B && t.cost == 4) = true := by decide
theorem test_sub_7a_01_00 :
    after ((code [0x7A, 0x01, 0x00]).set16 .hl 0x8000)
      (fun t => t.get16 .hl == 0x7FFF && t.pc == 0x0103 && t.f == 0x16 && t.cost == 6) = true := by decide
theorem test_sbc_6b_00 :
    after (((code [0x6B, 0x00]).set8 .a 0x00).setF 0x01)
      (fun t => t.get8 .a == 0xFF && t.pc == 0x0102 && t.f == 0x9B && t.cost == 4) = true := by decide
theorem test_sbc_7b_ff_ff :
    after (((code [0x7B, 0xFF, 0xFF]).set16 .hl 0x0000).setF 0x01)
      (fun t => t.pc == 0x0103 && t.f == 0x5B && t.cost == 6) = true := by decide
theorem test_cp_6f_42 :
    after ((code [0x6F, 0x42]).set8 .a 0x42)
      (fun t => t.pc == 0x0102 && t.f == 0x42 && t.cost == 4) = true := by decide
theorem test_cp_7f_35_12 :
    after ((code [0x7F, 0x35, 0x12]).set16 .hl 0x1234)
      (fun t => t.pc == 0x0103 && t.f == 0x9B && t.cost == 6) = true := by decide
theorem test_and_6c_0f :
    after (((code [0x6C, 0x0F]).set8 .a 0xF0).setF 0x01)
      (fun t => t.get8 .a == 0x00 && t.pc == 0x0102 && t.f == 0x54 && t.cost == 4) = true := by decide
theorem test_xor_6d_ff :
    after (((code [0x6D, 0xFF]).set8 .a 0xFF).setF 0x13)
      (fun t => t.get8 .a == 0x00 && t.pc == 0x0102 && t.f == 0x44 && t.cost == 4) = true := by decide
theorem test_or_6e_00 :
    after (((code [0x6E, 0x00]).set8 .a 0x00).setF 0x01)
      (fun t => t.pc == 0x0102 && t.f == 0x44 && t.cost == 4) = true := by decide
theorem test_inc_80 :
    after (((code [0x80]).set8 .b 0xFF).setF 0x01)
      (fun t => t.get16 .bc == 0x0000 && t.pc == 0x0101 && t.f == 0x59 && t.cost == 2) = true := by decide
theorem test_inc_90 :
    after (((code [0x90]).set16 .bc 0xFFFF).setF 0x00)
      (fun t => t.get16 .bc == 0x0000 && t.pc == 0x0101 && t.f == 0x00 && t.cost == 4) = true := by decide
theorem test_dec_88 :
    after ((code [0x88]).set8 .b 0x00)
      (fun t => t.get16 .bc == 0xFF00 && t.pc == 0x0101 && t.f == 0x9A && t.cost == 2) = true := by decide
theorem test_dec_9e :
    after ((code [0x9E]).set16 .sp 0x0000)
      (fun t => t.get16 .sp == 0xFFFF && t.pc == 0x0101 && t.f == 0x00 && t.cost == 4) = true := by decide
theorem test_incx_07_40 :
    after (poke 0xFF40 0xFF ((code [0x07, 0x40]).setF 0x08))
      (fun t => t.pc == 0x0102 && t.f == 0x58 && t.mem.read 0xFF40 == 0x00 && t.cost == 10) = true := by decide
theorem test_incx_07_40b :
    after (poke 0xFF40 0xFF ((code [0x07, 0x40]).setF 0x00))
      (fun t => t.pc == 0x0102 && t.f == 0x00 && t.cost == 6) = true := by decide
theorem test_decx_0f_40 :
    after (poke 0xFF40 0x00 ((code [0x0F, 0x40]).setF 0x08))
      (fun t => t.pc == 0x0102 && t.f == 0x9A && t.mem.read 0xFF40 == 0xFF && t.cost == 10) = true := by decide
theorem test_decx_0f_40b :
    after (poke 0xFF40 0x00 ((code [0x0F, 0x40]).setF 0xF7))
      (fun t => t.pc == 0x0102 && t.f == 0xF7 && t.cost == 6) = true := by decide
theorem test_incw_97_50 :
    after (poke 0xFF51 0xFF (poke 0xFF50 0xFF (code [0x97, 0x50])))
      (fun t => t.pc == 0x0102 && t.f == 0x58 && t.mem.read 0xFF50 == 0x00 && t.mem.read 0xFF51 == 0x00 && t.cost == 14) = true := by decide
theorem test_incw_97_50b :
    after ((poke 0xFF51 0x7F (poke 0xFF50 0xFF (code [0x97, 0x50]))).setF 0x01)
      (fun t => t.pc == 0x0102 && t.f == 0x95 && t.mem.read 0xFF50 == 0x00 && t.mem.read 0xFF51 == 0x80 && t.cost == 14) = true := by decide
theorem test_decw_9f_50 :
    after (poke 0xFF51 0x00 (poke 0xFF50 0x00 (code [0x9F, 0x50])))
      (fun t => t.pc == 0x0102 && t.f == 0x9A && t.mem.read 0xFF50 == 0xFF && t.mem.read 0xFF51 == 0xFF && t.cost == 14) = true := by decide
theorem test_neg_11 :
    after ((code [0x11]).set8 .a 0x01)
      (fun t => t.get8 .a == 0xFF && t.pc == 0x0101 && t.f == 0x9B && t.cost == 2) = true := by decide
theorem test_cpl_10 :
    after (((code [0x10]).set8 .a 0x5A).setF 0x00)
      (fun t => t.get8 .a == 0xA5 && t.pc == 0x0101 && t.f == 0x12 && t.cost == 2) = true := by decide
theorem test_daa_0b :
    after (((code [0x0B]).set8 .a 0x9A).setF 0x00)
      (fun t => t.get8 .a == 0x00 && t.pc == 0x0101 && t.f == 0x5D && t.cost == 4) = true := by decide
theorem test_daa_0bb :
    after (((code [0x0B]).set8 .a 0x00).setF 0x11)
      (fun t => t.get8 .a == 0x66 && t.pc == 0x0101 && t.f == 0x0D && t.cost == 4) = true := by decide
theorem test_mul_12_0c :
    after ((code [0x12, 0x0C]).set16 .hl 0x340B)
      (fun t => t.get16 .hl == 0x0084 && t.pc == 0x0102 && t.f == 0x00 && t.cost == 16) = true := by decide
theorem test_mul_e0_12 :
    after (poke 0x4000 0x00 (((code [0xE0, 0x12]).set16 .hl 0x0003).set16 .bc 0x4000))
      (fun t => t.get16 .hl == 0x0000 && t.pc == 0x0102 && t.f == 0x00 && t.cost == 18) = true := by decide
theorem test_div_13_0a :
    after ((code [0x13, 0x0A]).set16 .hl 0x0064)
      (fun t => t.get16 .hl == 0x000A && t.pc == 0x0102 && t.f == 0x00 && t.cost == 16) = true := by decide
theorem test_div_f9_13 :
    after (((code [0xF9, 0x13]).set16 .hl 0xFFFF).set8 .c 0xFF)
      (fun t => t.get16 .hl == 0x0001 && t.pc == 0x0102 && t.f == 0x04 && t.cost == 18) = true := by decide
theorem test_rlca_a0 :
    after (((code [0xA0]).set8 .a 0x81).setF 0xC4)
      (fun t => t.get8 .a == 0x03 && t.pc == 0x0101 && t.f == 0xCD && t.cost == 2) = true := by decide
theorem test_rrca_a1 :
    after (((code [0xA1]).set8 .a 0x01).setF 0x00)
      (fun t => t.get8 .a == 0x80 && t.pc == 0x0101 && t.f == 0x09 && t.cost == 2) = true := by decide
theorem test_rla_a2 :
    after (((code [0xA2]).set8 .a 0x80).setF 0x00)
      (fun t => t.get8 .a == 0x00 && t.pc == 0x0101 && t.f == 0x09 && t.cost == 2) = true := by decide
theorem test_rra_a3 :
    after (((code [0xA3]).set8 .a 0x01).setF 0x01)
      (fun t => t.get8 .a == 0x80 && t.pc == 0x0101 && t.f == 0x09 && t.cost == 2) = true := by decide
theorem test_slaa_a4 :
    after (((code [0xA4]).set8 .a 0xC0).setF 0x00)
      (fun t => t.get8 .a == 0x80 && t.pc == 0x0101 && t.f == 0x09 && t.cost == 2) = true := by decide
theorem test_sraa_a5 :
    after (((code [0xA5]).set8 .a 0x81).setF 0x00)
      (fun t => t.get8 .a == 0xC0 && t.pc == 0x0101 && t.f == 0x09 && t.cost == 2) = true := by decide
theorem test_slla_a6 :
    after (((code [0xA6]).set8 .a 0x80).setF 0x00)
      (fun t => t.get8 .a == 0x00 && t.pc == 0x0101 && t.f == 0x09 && t.cost == 2) = true := by decide
theorem test_srla_a7 :
    after (((code [0xA7]).set8 .a 0x01).setF 0x00)
      (fun t => t.get8 .a == 0x00 && t.pc == 0x0101 && t.f == 0x09 && t.cost == 2) = true := by decide
theorem test_rlc_f8_a0 :
    after (((code [0xF8, 0xA0]).set8 .b 0x81).setF 0x00)
      (fun t => t.get16 .bc == 0x0300 && t.pc == 0x0102 && t.f == 0x0D && t.cost == 4) = true := by decide
theorem test_rrc_f9_a1 :
    after ((code [0xF9, 0xA1]).set8 .c 0x01)
      (fun t => t.get16 .bc == 0x0080 && t.pc == 0x0102 && t.f == 0x89 && t.cost == 4) = true := by decide
theorem test_rl_fa_a2 :
    after (((code [0xFA, 0xA2]).set8 .d 0x80).setF 0x01)
      (fun t => t.get16 .de == 0x0100 && t.pc == 0x0102 && t.f == 0x09 && t.cost == 4) = true := by decide
theorem test_rr_fb_a3 :
    after (((code [0xFB, 0xA3]).set8 .e 0x00).setF 0x01)
      (fun t => t.get16 .de == 0x0080 && t.pc == 0x0102 && t.f == 0x80 && t.cost == 4) = true := by decide
theorem test_sla_fc_a4 :
    after ((code [0xFC, 0xA4]).set8 .h 0x80)
      (fun t => t.get16 .hl == 0x0000 && t.pc == 0x0102 && t.f == 0x4D && t.cost == 4) = true := by decide
theorem test_sra_fd_a5 :
    after ((code [0xFD, 0xA5]).set8 .l 0x80)
      (fun t => t.get16 .hl == 0x00C0 && t.pc == 0x0102 && t.f == 0x84 && t.cost == 4) = true := by decide
theorem test_sll_fe_a6 :
    after ((code [0xFE, 0xA6]).set8 .a 0x7F)
      (fun t => t.get8 .a == 0xFE && t.pc == 0x0102 && t.f == 0x80 && t.cost == 4) = true := by decide
theorem test_srl_fe_a7 :
    after ((code [0xFE, 0xA7]).set8 .a 0xFF)
      (fun t => t.get8 .a == 0x7F && t.pc == 0x0102 && t.f == 0x09 && t.cost == 4) = true := by decide
theorem test_rld_e2_10 :
    after (poke 0x4000 0x34 ((((code [0xE2, 0x10]).set8 .a 0x12).set16 .hl 0x4000).setF 0x01))
      (fun t => t.get8 .a == 0x13 && t.pc == 0x0102 && t.f == 0x01 && t.mem.read 0x4000 == 0x42 && t.cost == 12) = true := by decide
theorem test_rrd_e2_11 :
    after (poke 0x4000 0x34 ((((code [0xE2, 0x11]).set8 .a 0x12).set16 .hl 0x4000).setF 0x01))
      (fun t => t.get8 .a == 0x14 && t.pc == 0x0102 && t.f == 0x05 && t.mem.read 0x4000 == 0x23 && t.cost == 12) = true := by decide
theorem test_bit_f8_a8 :
    after (((code [0xF8, 0xA8]).set8 .b 0x01).setF 0x01)
      (fun t => t.pc == 0x0102 && t.cost == 4) = true := by decide
theorem test_set_f9_bf :
    after (((code [0xF9, 0xBF]).set8 .c 0x00).setF 0xFF)
      (fun t => t.get16 .bc == 0x0080 && t.pc == 0x0102 && t.f == 0xFF && t.cost == 4) = true := by decide
theorem test_res_f9_b0 :
    after (((code [0xF9, 0xB0]).set8 .c 0xFF).setF 0x00)
      (fun t => t.get16 .bc == 0x00FE && t.pc == 0x0102 && t.f == 0x00 && t.cost == 4) = true := by decide
theorem test_tset_e2_18 :
    after (poke 0x4000 0x00 ((code [0xE2, 0x18]).set16 .hl 0x4000))
      (fun t => t.pc == 0x0102 && t.mem.read 0x4000 == 0x01 && t.cost == 12) = true := by decide
theorem test_tset_fe_1f :
    after ((code [0xFE, 0x1F]).set8 .a 0x00)
      (fun t => t.pc == 0x0102 && t.cost == 8) = true := by decide
theorem test_rcf_0c :
    after ((code [0x0C]).setF 0xFF)
      (fun t => t.pc == 0x0101 && t.f == 0xE4 && t.cost == 2) = true := by decide
theorem test_scf_0d :
    after ((code [0x0D]).setF 0x00)
      (fun t => t.pc == 0x0101 && t.f == 0x09 && t.cost == 2) = true := by decide
theorem test_ccf_0e :
    after ((code [0x0E]).setF 0x01)
      (fun t => t.pc == 0x0101 && t.f == 0x10 && t.cost == 2) = true := by decide
theorem test_ccf_0eb :
    after ((code [0x0E]).setF 0x00)
      (fun t => t.pc == 0x0101 && t.f == 0x09 && t.cost == 2) = true := by decide
theorem test_jp_1a_34_12 :
    after (code [0x1A, 0x34, 0x12])
      (fun t => t.pc == 0x1234 && t.f == 0x00 && t.cost == 8) = true := by decide
theorem test_jp_ea_c8 :
    after ((code [0xEA, 0xC8]).set16 .hl 0x5678)
      (fun t => t.pc == 0x5678 && t.f == 0x00 && t.cost == 8) = true := by decide
theorem test_jr_c8_10 :
    after (code [0xC8, 0x10])
      (fun t => t.pc == 0x0112 && t.f == 0x00 && t.cost == 8) = true := by decide
theorem test_jr_c6_10 :
    after ((code [0xC6, 0x10]).setF 0x00)
      (fun t => t.pc == 0x0102 && t.f == 0x00 && t.cost == 4) = true := by decide
theorem test_jrl_1b_00_10 :
    after (code [0x1B, 0x00, 0x10])
      (fun t => t.pc == 0x1103 && t.f == 0x00 && t.cost == 10) = true := by decide
theorem test_call_1c_00_40 :
    after (code [0x1C, 0x00, 0x40])
      (fun t => t.get16 .sp == 0x1FFE && t.pc == 0x4000 && t.f == 0x00 && t.mem.read 0x1FFE == 0x03 && t.mem.read 0x1FFF == 0x01 && t.cost == 14) = true := by decide
theorem test_call_eb_00_40_d7 :
    after ((code [0xEB, 0x00, 0x40, 0xD7]).setF 0x00)
      (fun t => t.pc == 0x0104 && t.f == 0x00 && t.cost == 10) = true := by decide
theorem test_callr_1d_00_01 :
    after (code [0x1D, 0x00, 0x01])
      (fun t => t.get16 .sp == 0x1FFE && t.pc == 0x0203 && t.f == 0x00 && t.mem.read 0x1FFE == 0x03 && t.mem.read 0x1FFF == 0x01 && t.cost == 16) = true := by decide
theorem test_ret_1e :
    after (poke 0x1FFF 0x01 (poke 0x1FFE 0x03 ((code [0x1E]).set16 .sp 0x1FFE)))
      (fun t => t.get16 .sp == 0x2000 && t.pc == 0x0103 && t.f == 0x00 && t.cost == 10) = true := by decide
theorem test_ret_fe_d6 :
    after (poke 0x1FFF 0x01 (poke 0x1FFE 0x03 (((code [0xFE, 0xD6]).setF 0x00).set16 .sp 0x1FFE)))
      (fun t => t.pc == 0x0102 && t.f == 0x00 && t.cost == 6) = true := by decide
theorem test_reti_1f :
    after (poke 0x1FFF 0x01 (poke 0x1FFE 0x03 (poke 0x1FFD 0x55 (poke 0x1FFC 0x20 ((code [0x1F]).set16 .sp 0x1FFC)))))
      (fun t => t.get8 .a == 0x55 && t.get16 .sp == 0x2000 && t.pc == 0x0103 && t.f == 0x20 && t.cost == 14) = true := by decide
theorem test_nop_00 :
    after ((code [0x00]).setF 0xFF)
      (fun t => t.pc == 0x0101 && t.f == 0xFF && t.cost == 2) = true := by decide
theorem test_halt_01 :
    after (code [0x01])
      (fun t => t.pc == 0x0101 && t.halted == true && t.f == 0x00 && t.cost == 4) = true := by decide
theorem test_di_02 :
    after ((code [0x02]).setF 0xFF)
      (fun t => t.pc == 0x0101 && t.f == 0xDF && t.cost == 2) = true := by decide
theorem test_ei_03 :
    after ((code [0x03]).setF 0x00)
      (fun t => t.pc == 0x0101 && t.afterEi == true && t.f == 0x00 && t.cost == 2) = true := by decide
theorem test_swi_ff :
    after (((code [0xFF]).setF 0xE5).set8 .a 0x12)
      (fun t => t.get16 .sp == 0x1FFE && t.pc == 0x0010 && t.f == 0xC5 && t.mem.read 0x1FFE == 0x01 && t.mem.read 0x1FFF == 0x01 && t.cost == 20) = true := by decide
theorem test_unknown_04 :
    after ((code [0x04]).setF 0xFF)
      (fun t => t.pc == 0x0101 && t.f == 0xFF && t.cost == 2) = true := by decide
theorem test_lddr_fe_5b :
    after (poke 0x4002 0x03 ((((code [0xFE, 0x5B]).set16 .hl 0x4002).set16 .de 0x4003).set16 .bc 0x0001))
      (fun t => t.get16 .bc == 0 && t.get16 .de == 0x4002 && t.get16 .hl == 0x4001 && t.pc == 0x0102 && t.f == 0x00 &&
        t.mem.read 0x4003 == 0x03 && t.cost == 14) = true := by decide
theorem test_cpir_fe_5d_match :
    after (poke 0x4000 0x33 ((((code [0xFE, 0x5D]).set8 .a 0x33).set16 .hl 0x4000).set16 .bc 0x0010))
      (fun t => t.get16 .bc == 0x000F && t.get16 .hl == 0x4001 && t.pc == 0x0102 && t.f == 0x46 && t.cost == 14) = true := by decide
theorem test_cpir_fe_5d_goes_on :
    after (poke 0x4000 0x11 ((((code [0xFE, 0x5D]).set8 .a 0x33).set16 .hl 0x4000).set16 .bc 0x0010))
      (fun t => t.get16 .bc == 0x000F && t.get16 .hl == 0x4001 && t.pc == 0x0100 && t.cost == 18) = true := by decide
theorem test_cpdr_fe_5f :
    after (poke 0x4002 0x33 ((((code [0xFE, 0x5F]).set8 .a 0x11).set16 .hl 0x4002).set16 .bc 0x0003))
      (fun t => t.get16 .bc == 0x0002 && t.get16 .hl == 0x4001 && t.pc == 0x0100 && t.cost == 18) = true := by decide

/-- BIT and TSET (43 R251): Z, H, N whatever the free values of S and V are. -/
theorem test_bit_flags (fs fv : Bool) :
    (Flags.ofByte (bitFlags 0xF7 3 fs fv 0x02)).z = true ∧ (Flags.ofByte (bitFlags 0xF7 3 fs fv 0x02)).h = true ∧
      (Flags.ofByte (bitFlags 0xF7 3 fs fv 0x02)).n = false ∧ (Flags.ofByte (bitFlags 0x80 7 fs fv 0x00)).z = false := by
  revert fs fv; decide

/-! ### Bank registers, parameters, the register window (spec 95 T11, T12; 20 R63, R65) -/

theorem test_bx_extends_ix :
    after (poke 0x31234 0x5A (poke 0x1234 0xA5 (((code [0xE4, 0x2E]).set16 .ix 0x1234).setBankX 3)))
      (fun t => t.get8 .a == 0x5A) = true := by decide
theorem test_word_wraps_in_bank :
    after (poke 0x2FFFF 0x11 (poke 0x20000 0x22 (poke 0x30000 0x33 (((code [0xE5, 0x48]).set16 .iy 0xFFFF).setBankY 2))))
      (fun t => t.get16 .bc == 0x2211) = true := by decide
theorem test_rel16_bias :
    after { code [0x17, 0x10, 0x00] with cfg := { Params.default with rel16Minus1 := true } }
      (fun t => t.get16 .hl == 0x0112) = true := by decide
theorem test_trun_starts_timer0 :
    after { code [0x37, 0xDB, 0x01] with t0 := ⟨0, 1, false, 0x20, 0, 7⟩ }
      (fun t => t.t0.run && t.t0.count == 0x16 && t.t0.presc == 0) = true := by decide
theorem test_port_read_once :
    after { code [0x27, 0xC1] with ports := State.reset.ports.set 1 (.connected [0x42, 0x43]) }
      (fun t => t.get8 .a == 0x42 && decide (t.callLog = [.portRead 1 0x42])) = true := by decide
theorem test_unconnected_port_reads_ff : after (code [0x27, 0xC0]) (fun t => t.get8 .a == 0xFF) = true := by decide

/-! ### The adapter: read-only bytes and devices (20 R71, R75) -/

/-- An adapter with 256 read-only bytes at 0x4000 and a device at 0x4100, which will answer 0x11 and 0x22. -/
def withDevice (s : State) : State :=
  { s with cfg := { s.cfg with memMap := [⟨0x4000, 0x100, .readOnly⟩, ⟨0x4100, 1, .device⟩] }, busAnswers := [0x11, 0x22] }

theorem test_read_only_byte_drops_a_write :
    after (withDevice (poke 0x40FF 0x33 ((code [0xEB, 0xFF, 0x40, 0x26]).set8 .a 0x44)))
      (fun t => t.mem.read 0x40FF == 0x33 && decide (t.callLog = [])) = true := by decide
theorem test_device_is_read_then_written :
    after (withDevice (code [0xE3, 0x00, 0x41, 0x87]))
      (fun t => decide (t.callLog = [.memWrite 0x4100 0x12, .memRead 0x4100 0x11] ∧ t.busAnswers = [0x22])) = true := by decide
theorem test_device_low_byte_first :
    after { withDevice (poke 0x4101 0x77 (code [0xE3, 0x00, 0x41, 0x48])) with busAnswers := [0x55] }
      (fun t => t.get16 .bc == 0x7755) = true := by decide

/-! ### Interrupts, halt, deferred enable, timers (spec 95 section 1 and 3) -/

/-- A state with I = 1 and these requests and masks. -/
def asking (pending mask : BitVec 14) : State := { (code [0x00]).setF 0x20 with pending := pending, mask := mask }

theorem test_accept_intt0 :
    after (asking 0x0210 0x0210)
      (fun t => t.pc == 0x0030 && t.sp == 0x1FFC && t.f == 0x00 && t.pending == 0x0200 && t.cost == 20 &&
        t.mem.read 0x1FFC == 0x20 && t.mem.read 0x1FFE == 0x00 && t.mem.read 0x1FFF == 0x01) = true := by decide
theorem test_accept_nmi_pushes_pc_only :
    after (asking 0x0012 0x0010) (fun t => t.pc == 0x0018 && t.sp == 0x1FFE && t.pending == 0x0010) = true := by decide
theorem test_masked_request_waits : after (asking 0x0010 0x0000) (fun t => t.pc == 0x0101 && t.pending == 0x0010) = true := by decide
theorem test_ei_then_nop : after ((code [0x00]).setAfterEi true) (fun t => t.f == 0x20 && !t.afterEi) = true := by decide
theorem test_ei_then_di : after ((code [0x02]).setAfterEi true) (fun t => t.f == 0x00 && !t.afterEi) = true := by decide
theorem test_ei_then_swi : after ((code [0xFF]).setAfterEi true) (fun t => t.f == 0x20 && t.pc == 0x0010) = true := by decide
theorem test_unknown_costs_two : after (code [0xE3, 0x00, 0x10, 0x00]) (fun t => t.pc == 0x0104 && t.cost == 2) = true := by decide
theorem test_halted_idles : after ((code [0x00]).setHalted true) (fun t => t.pc == 0x0100 && t.halted && t.cost == 1) = true := by decide

/-- Free-run, reload 3, every cycle: the terminal event is the fourth cycle (60 R345, R346). -/
theorem test_timer_free_run :
    (advanceTimers 3 { State.reset with t0 := ⟨0, 1, true, 3, 3, 0⟩ }).t0.count = 0 ∧
    (advanceTimers 3 { State.reset with t0 := ⟨0, 1, true, 3, 3, 0⟩ }).pending = 0 ∧
    (advanceTimers 4 { State.reset with t0 := ⟨0, 1, true, 3, 3, 0⟩ }).t0.count = 3 ∧
    (advanceTimers 4 { State.reset with t0 := ⟨0, 1, true, 3, 3, 0⟩ }).pending = 0x0010 := by decide
/-- One-shot stops; event-count compares; timer 4 counts the terminal event of timer 1 (60 R345, R348, R349). -/
theorem test_timer_modes :
    (advanceTimers 1 { State.reset with t2 := ⟨1, 1, true, 5, 0, 0⟩ }).t2 = ⟨1, 1, false, 5, 5, 0⟩ ∧
    (timerExtEvent8 3 { State.reset with t3 := ⟨2, 0, true, 2, 1, 0⟩ }).pending = 0x0080 ∧
    (advanceTimers 1 { State.reset with t1 := ⟨0, 1, true, 9, 0, 0⟩, t4 := ⟨0, 4, true, 7, 0, 0⟩ }).pending = 0x0120 := by decide
theorem test_run_carries_overshoot :
    (match run 3 { State.reset with mem := ⟨[(0, 0x00), (1, 0x00)]⟩ } with | .next r => r.2 == 4 && r.1.residual == 1 && r.1.pc == 2 | _ => false) = true := by decide

/-! ### Witnesses: states and operands that meet the hypotheses of the statements

Each is for the statement it is named after; the clauses of a statement each have their own part. -/

/-- The step from `s` answers a next state. -/
def goesOn (s : State) : Bool := after s fun _ => true

/-- A meaning answers a next state. -/
def answers (o : Res) : Bool :=
  match o with
  | .next _ => true
  | _ => false

theorem test_witness_StepKeepsInvariant : MachineInv (code [0x00]) ∧ goesOn (code [0x00]) = true := by decide
theorem test_witness_HostKeepsInvariant : MachineInv (code [0x00]) ∧
    (match run 2 (code [0x00]) with | .next r => decide (MachineInv r.1) | _ => false) = true := by decide
theorem test_witness_DecodeOfEncode : (Instr.ldwAt (.mn 0x1000) 0xABCD).wellFormed = true ∧
    (Instr.lda .sp (.xd .sp 0x80)).wellFormed = true ∧ Instr.nop.wellFormed = true := by decide
theorem test_witness_EncodeOfDecode : decode [0xEB, 0x00, 0x10, 0x3F, 0xCD, 0xAB] = .instr (.ldwAt (.mn 0x1000) 0xABCD) 6 ∧
    decode [0x00] = .instr .nop 1 := by decide
theorem test_witness_UnknownLength : decode (0x04 :: []) = .unknown 1 ∧ decode (0xDF :: []) = .unknown 1 ∧
    decode (0xE0 :: [0x00]) = .unknown 2 ∧ decode (0xFE :: [0x00]) = .unknown 2 ∧ decode (0xE7 :: [0, 0]) = .unknown 3 ∧
    decode (0xF6 :: [0, 0]) = .unknown 3 ∧ decode (0xE3 :: [0, 0, 0]) = .unknown 4 ∧ decode (0xEB :: [0, 0, 0]) = .unknown 4 := by decide
theorem test_witness_UnknownHasNoEffect : checkInterrupts (code [0xE3, 0x00, 0x10, 0x00]) = none ∧
    (code [0xE3, 0x00, 0x10, 0x00]).halted = false ∧ fetchLeavesMemory (code [0xE3, 0x00, 0x10, 0x00]) = false ∧
    decode (bytesAt 6 (code [0xE3, 0x00, 0x10, 0x00]).pc (code [0xE3, 0x00, 0x10, 0x00])) = .unknown 4 := by decide
/-- The second half at a PC inside the register window: TREG0 holds an opcode marked unrecognised. -/
theorem test_witness_UnknownHasNoEffect_window :
    let s : State := { State.reset with pc := 0xFFD4, t0 := ⟨0, 0, false, 0x04, 0, 0⟩ }
    checkInterrupts s = none ∧ s.halted = false ∧ fetchLeavesMemory s = true ∧ (fetchDecode s).1 = none := by decide
theorem test_witness_StepRunsTheInstruction : checkInterrupts (code [0x12, 0x0C]) = none ∧ (code [0x12, 0x0C]).halted = false ∧
    fetchLeavesMemory (code [0x12, 0x0C]) = false ∧
    decode (bytesAt 6 (code [0x12, 0x0C]).pc (code [0x12, 0x0C])) = .instr (.mulN 0x0C) 2 := by decide
/-- The second half at a PC inside the register window: TREG0 holds the opcode of INC B. -/
theorem test_witness_StepRunsTheInstruction_window :
    let s : State := { State.reset with pc := 0xFFD4, t0 := ⟨0, 0, false, 0x80, 0, 0⟩ }
    checkInterrupts s = none ∧ s.halted = false ∧ fetchLeavesMemory s = true ∧ (fetchDecode s).1 = some (.incR .b) := by decide
theorem test_witness_EnableIsDeferred :
    ((code [0x03]).setAfterEi true).halted = false ∧ (fetchDecode ((code [0x03]).setAfterEi true)).1 = some .ei ∧
    (fetchDecode ((code [0x02]).setAfterEi true)).1 = some .di ∧ (fetchDecode ((code [0x1F]).setAfterEi true)).1 = some .reti ∧
    goesOn ((code [0x03]).setAfterEi true) = true ∧ goesOn ((code [0x02]).setAfterEi true) = true ∧
    goesOn ((code [0x1F]).setAfterEi true) = true := by decide
theorem test_witness_HaltedCoreIdles : checkInterrupts ((code [0x00]).setHalted true) = none ∧
    checkInterrupts ((asking 0x0010 0x0010).setHalted true) = some 4 ∧ goesOn ((asking 0x0010 0x0010).setHalted true) = true := by decide
theorem test_witness_ArbitrationPicksFirst : checkInterrupts (asking 0x0002 0x0000) = some 1 ∧
    checkInterrupts (asking 0x2000 0x2000) = some 13 ∧
    checkInterrupts { asking 0x3FF0 0x3FF8 with line := 0x0008 } = some 3 ∧ checkInterrupts (asking 0x0010 0x0000) = none := by decide
theorem test_witness_AcceptanceIsAStep : checkInterrupts (asking 0x0002 0x0000) = some 1 ∧
    checkInterrupts (asking 0x2000 0x2000) = some 13 ∧ (asking 0x2000 0x2000).mem.wf = true := by decide
theorem test_witness_ReturnUndoesAcceptance :
    let s := asking 0x0000 0x0000
    let t : State := { s with sp := 0x0001, cfg := { Params.default with nmFrameHasAf := true } }
    3 ≤ (3 : Fin 14).val ∧ s.mem.wf = true ∧
    (s.keepsByte (bank0 (s.sp - 1)) && s.keepsByte (bank0 (s.sp - 2)) && s.keepsByte (bank0 (s.sp - 3)) &&
      s.keepsByte (bank0 (s.sp - 4))) = true ∧ t.cfg.nmFrameHasAf = true ∧ t.mem.wf = true ∧
    (t.keepsByte (bank0 (t.sp - 1)) && t.keepsByte (bank0 (t.sp - 2)) && t.keepsByte (bank0 (t.sp - 3)) &&
      t.keepsByte (bank0 (t.sp - 4))) = true := by decide
theorem test_witness_TimeTouchesOnlyTimers : State.reset.pending.getLsbD 4 = false ∧ (asking 0x0010 0).pending.getLsbD 4 = true ∧
    (State.reset.timer8 0).run = false ∧ State.reset.t4.run = false := by decide
/-- A terminal event with timer 4 chained to the timer, one without, and a plain count; a timer on external events; a
prescaler about to fill and one that is not, on clocks 2 and 3. -/
theorem test_witness_TimerCountEvent :
    (Rules.counted 8 0 0 9 true).2.2 = true ∧ (Rules.counted 8 2 8 9 true).2.2 = true ∧ (Rules.counted 8 2 255 0 true).2.2 = true ∧
    (Rules.counted 8 0 1 9 true).2.2 = false ∧ (Rules.counted 8 3 0 9 true).2.2 = false ∧
    (1 : Fin 4) = Params.default.chainA ∧ (3 : Fin 4) = Params.default.chainB ∧
    (let u : State := { State.reset with t0 := ⟨2, 0, true, 2, 1, 0⟩, t1 := ⟨0, 2, true, 9, 0, 15⟩, t4 := ⟨0, 0, true, 9, 0, 0⟩ }
     (u.timer8 0).run = true ∧ (u.timer8 0).clk = 0 ∧ u.t4.run = true ∧ u.t4.clk = 0 ∧ (u.timer8 1).run = true ∧
       (u.timer8 1).clk ≠ 0 ∧ ¬(u.timer8 1).presc.toNat + 1 < Rules.ticksEvery (u.timer8 1).clk.toNat ∧
       (timerExtEvent8 0 u).pending = 0x0010 ∧ (timerExtEvent16 u).pending = 0x0100) ∧
    (let u : State := { State.reset with t4 := ⟨0, 3, true, 9, 0, 254⟩ }
     u.t4.run = true ∧ 1 ≤ u.t4.clk.toNat ∧ u.t4.clk.toNat ≤ 3 ∧ u.t4.presc.toNat + 1 < Rules.ticksEvery u.t4.clk.toNat ∧
       (cycleTimer16 u).t4.presc = 255 ∧ (cycleTimer16 (cycleTimer16 u)).pending = 0x0100) := by decide
theorem test_witness_FreeRunPeriod :
    let s : State := { State.reset with t0 := ⟨0, 1, true, 0xFF, 0xFF, 0⟩, t1 := ⟨0, 2, true, 0, 0, 0⟩, t3 := ⟨0, 3, true, 7, 7, 0⟩, t4 := ⟨0, 3, true, 0x1234, 0x1234, 0⟩ }
    ((s.timer8 0).run = true ∧ (s.timer8 0).mode = 0 ∧ (s.timer8 0).clk ≠ 0 ∧ (s.timer8 0).presc = 0 ∧
      (s.timer8 0).count = (s.timer8 0).reload ∧ 255 < ((s.timer8 0).reload.toNat + 1) * 1) ∧
    ((s.timer8 1).run = true ∧ (s.timer8 1).mode = 0 ∧ (s.timer8 1).clk ≠ 0 ∧ (s.timer8 1).presc = 0 ∧
      (s.timer8 1).count = (s.timer8 1).reload) ∧
    (s.timer8 3).run = true ∧ (s.timer8 3).mode = 0 ∧ (s.timer8 3).clk ≠ 0 ∧ (s.timer8 3).presc = 0 ∧
      (s.timer8 3).count = (s.timer8 3).reload ∧
    s.t4.run = true ∧ s.t4.mode = 0 ∧ 1 ≤ s.t4.clk.toNat ∧ s.t4.clk.toNat ≤ 3 ∧ s.t4.presc = 0 ∧ s.t4.count = s.t4.reload := by decide
/-- Claimed and unclaimed addresses at the edges of the window, and the same offset in another bank. -/
theorem test_witness_AccessRouter : claimed 0xFFBF = none ∧ claimed 0xFFC5 = none ∧ claimed 0xFFEE = none ∧ claimed 0x1FFC0 = none ∧
    claimed 0xFFFF = none ∧ claimed (nextAddr 0xFFFF) = none ∧ claimed 0xFFC0 ≠ none ∧ claimed 0xFFED ≠ none ∧
    State.reset.mem.wf = true ∧ State.reset.memKind 0xFFFFF = .plain ∧ (withDevice State.reset).memKind 0x3FFF = .plain ∧
    (withDevice State.reset).memKind 0x4000 = .readOnly ∧ (withDevice State.reset).memKind 0x40FF = .readOnly ∧
    (withDevice State.reset).memKind 0x4100 = .device ∧ (withDevice State.reset).busAnswers = 0x11 :: [0x22] ∧
    (withDevice State.reset).memKind 0x4101 = .plain ∧ State.reset.busAnswers = [] := by decide
theorem test_witness_ControlRegisterWrites : (0x01 : Byte).getLsbD 0 = true ∧ (State.reset.timer8 0).run = false ∧
    (0x10 : Byte).getLsbD 4 = true ∧ State.reset.t4.run = false ∧ (0x00 : Byte).getLsbD 4 = false := by decide
theorem test_witness_PortAccess : State.reset.ports[(8 : Fin 9)] = .unconnected ∧
    (State.reset.ports.set 0 (.connected [1, 2]))[(0 : Fin 9)] = .connected (1 :: [2]) ∧
    (State.reset.ports.set 8 (.connected []))[(8 : Fin 9)] = .connected [] ∧ claimed 0xFFD0 = some (.port 8) ∧ (0 : Fin 9) ≠ 8 := by decide
theorem test_witness_HostRegisterAccess : claimed 0xFFEC = some ControlReg.bx.ioReg ∧
    hostRead (hostWrite (.control .inteh) 0x00FF State.reset) (.control .inteh) = 0x003F ∧ HostReg.bcShadow ≠ .deShadow ∧
    HostReg.gsel ≠ .asel ∧ (7 : Nat) < 8 ∧ (7 : Nat) = (7 : Fin 8).val ∧ (0 : Nat) ≠ (7 : Fin 8).val := by decide
/-- No name is a control register's, another timer, another part of the timer: the hypotheses of the host statement. -/
theorem test_witness_HostRegisterAccess_names : (∀ c, HostReg.timer8 3 .presc ≠ .control c) ∧ (2 : Fin 4) ≠ 3 ∧
    TimerField.count ≠ .presc := ⟨fun _ h => (nomatch h), by decide, by decide⟩
/-- Two states that differ in the model's own field alone have the same host reads. -/
theorem test_witness_HostRegisterAccess_reads :
    (∀ r, hostRead State.reset r = hostRead { State.reset with cost := 5 } r) ∧
      State.reset.residual = { State.reset with cost := 5 }.residual :=
  ⟨fun r => by cases r <;> first | rfl | (rename_i c; cases c <;> rfl), rfl⟩
/-- R46, R350: the host writes and reads a timer's count, the context flags and the interrupt bits, those alone that exist. -/
theorem test_host_writes_state :
    hostRead (hostWrite (.timer8 2 .count) 0x12AB State.reset) (.timer8 2 .count) = 0x00AB ∧
      (hostWrite (.timer4 .count) 0x12AB State.reset).t4.count = 0x12AB ∧
      (hostWrite (.timer4 .presc) 0x01FF State.reset).t4.presc = 0x0FF ∧ (hostWrite .halted 1 State.reset).halted = true ∧
      (hostWrite .afterEi 1 State.reset).afterEi = true ∧ (hostWrite .pending 0xFFFF State.reset).pending = 0x3FF6 ∧
      (hostWrite (.timer8 0 .run) 1 (hostWrite (.timer8 0 .reload) 9 State.reset)).t0.count = 0 ∧
      (hostWrite (.control .trun) 1 (hostWrite (.timer8 0 .reload) 9 State.reset)).t0.count = 9 := by decide
/-- Every instruction answers a next state; these two do so without changing a selector or I. -/
theorem test_witness_RulesOverInstructions : answers (exec .halt State.reset) = true ∧
    answers (exec .exx State.reset) = true ∧ answers (exec (.pop .hl) State.reset) = true ∧ Instr.pop .hl ≠ .pop .af := by decide
theorem test_witness_ConditionalCosts : State.reset.cfg.cyc = .spec ∧ Rules.condition .t (flagsOf State.reset) = true ∧
    Rules.condition .f (flagsOf State.reset) = false ∧ State.reset.get8 .b ≠ 1 ∧ (State.reset.set8 .b 1).get8 .b = 1 ∧
    (State.reset.set16 .bc 1).get16 .bc = 1 ∧ (flagsOf (State.reset.setF 0x08)).x = true := by decide
/-- The canonical memory that every storing statement asks for. -/
theorem test_witness_StoringStatements : State.reset.mem.wf = true ∧ (poke 0xFFFFF 0x01 (code [0xFE, 0x59])).mem.wf = true ∧
    RegQ.hl ≠ .af := by decide
/-- X set and X clear, for INCX and DECX. -/
theorem test_witness_IncrementBytes : (flagsOf (State.reset.setF 0x08)).x = true ∧ (flagsOf State.reset).x = false := by decide
/-- BC that reaches 0, BC that does not; a match and none. -/
theorem test_witness_BlockInstructions : (State.reset.set16 .bc 1).get16 .bc - 1 = 0 ∧ State.reset.get16 .bc - 1 ≠ 0 ∧
    (poke 0 0x00 State.reset).get8 .a = (read8 (bank0 (State.reset.get16 .hl)) (poke 0 0x00 State.reset)).1 ∧
    (poke 0 0x01 State.reset).get8 .a ≠ (read8 (bank0 (State.reset.get16 .hl)) (poke 0 0x01 State.reset)).1 := by decide
theorem test_witness_DecimalAddition : (State.reset.set8 .a 0x99).get8 .a = 0x99 ∧
    ((0x99 : Byte).toNat / 16 ≤ 9 ∧ (0x99 : Byte).toNat % 16 ≤ 9) ∧ (0x01 : Byte).toNat / 16 ≤ 9 ∧ (0x01 : Byte).toNat % 16 ≤ 9 := by decide
/-- Division by 0 with the default and with another `DIV0`, by 1 with a quotient over 255, and an exact one. -/
theorem test_witness_MultiplyAndDivide : State.reset.cfg.div0 = .spec ∧
    ({ Params.default with div0 := .other 3 } : Params).div0 = .other 3 ∧ (1 : Byte) ≠ 0 ∧
    255 < ((State.reset.set16 .hl 0x0100).get16 .hl).toNat / (1 : Byte).toNat := by decide
/-- A condition that holds and one that does not; B and BC at 1 and not at 1. -/
theorem test_witness_ControlTransfer : Rules.condition .nz (flagsOf State.reset) = true ∧ Rules.condition .z (flagsOf State.reset) = false ∧
    (State.reset.set8 .b 1).get8 .b = 1 ∧ State.reset.get8 .b ≠ 1 ∧ State.reset.get16 .bc ≠ 1 := by decide

end Sys2Proof.Tests
end

section
/-! SUPPORT. The interrupt enable flag under the flag computations: none of them names I (spec 10 R29, R30). -/

namespace Sys2Proof

/-- The I flag of F (10 R30). -/
def interruptFlag (f : Byte) : Bool := (Flags.ofByte f).i

section FlagComputations

variable (f : Byte)

@[simp] theorem interruptFlag_addFlags {w : Nat} (hb : Nat) (a b : BitVec w) (cin : Bool) :
    interruptFlag (addFlags hb a b cin f).2 = interruptFlag f := by
  simp [interruptFlag, addFlags]

@[simp] theorem interruptFlag_subFlags {w : Nat} (hb : Nat) (a b : BitVec w) (cin : Bool) :
    interruptFlag (subFlags hb a b cin f).2 = interruptFlag f := by
  simp [interruptFlag, subFlags]

@[simp] theorem interruptFlag_logicFlags {w : Nat} (res : BitVec w) (h v : Bool) :
    interruptFlag (logicFlags res h v f).2 = interruptFlag f := by
  simp [interruptFlag, logicFlags]

@[simp] theorem interruptFlag_alu8 (op : AluOp) (a b : Byte) : interruptFlag (alu8 op a b f).2 = interruptFlag f := by
  cases op <;> simp [alu8]

@[simp] theorem interruptFlag_alu16 (op : AluOp) (a b : Word) : interruptFlag (alu16 op a b f).2 = interruptFlag f := by
  cases op <;> simp [alu16]

@[simp] theorem interruptFlag_addXFlags (a b : Word) : interruptFlag (addXFlags a b f).2 = interruptFlag f := by
  simp [interruptFlag, addXFlags]

@[simp] theorem interruptFlag_incFlags {w : Nat} (hb : Nat) (a : BitVec w) :
    interruptFlag (incFlags hb a f).2 = interruptFlag f := by
  simp [interruptFlag, incFlags]

@[simp] theorem interruptFlag_decFlags {w : Nat} (hb : Nat) (a : BitVec w) :
    interruptFlag (decFlags hb a f).2 = interruptFlag f := by
  simp [interruptFlag, decFlags]

@[simp] theorem interruptFlag_cplFlags : interruptFlag (cplFlags f) = interruptFlag f := by
  simp [interruptFlag, cplFlags]

@[simp] theorem interruptFlag_daaFlags (a : Byte) : interruptFlag (daaFlags a f).2 = interruptFlag f := by
  simp [interruptFlag, daaFlags]

@[simp] theorem interruptFlag_rotFlags (op : RotOp) (v : Byte) : interruptFlag (rotFlags op v f).2 = interruptFlag f := by
  simp [interruptFlag, rotFlags]

@[simp] theorem interruptFlag_rotAFlags (op : RotOp) (v : Byte) : interruptFlag (rotAFlags op v f).2 = interruptFlag f := by
  simp [interruptFlag, rotAFlags]

@[simp] theorem interruptFlag_digitFlags (a : Byte) : interruptFlag (digitFlags a f) = interruptFlag f := by
  simp [interruptFlag, digitFlags]

@[simp] theorem interruptFlag_bitFlags (v : Byte) (b : BitNo) (fs fv : Bool) :
    interruptFlag (bitFlags v b fs fv f) = interruptFlag f := by
  simp [interruptFlag, bitFlags]

@[simp] theorem interruptFlag_rcfFlags : interruptFlag (rcfFlags f) = interruptFlag f := by
  simp [interruptFlag, rcfFlags]

@[simp] theorem interruptFlag_scfFlags : interruptFlag (scfFlags f) = interruptFlag f := by
  simp [interruptFlag, scfFlags]

@[simp] theorem interruptFlag_ccfFlags : interruptFlag (ccfFlags f) = interruptFlag f := by
  simp [interruptFlag, ccfFlags]

@[simp] theorem interruptFlag_ldiFlags (more : Bool) : interruptFlag (ldiFlags more f) = interruptFlag f := by
  simp [interruptFlag, ldiFlags]

@[simp] theorem interruptFlag_cpiFlags (a m : Byte) (more : Bool) : interruptFlag (cpiFlags a m more f) = interruptFlag f := by
  simp [interruptFlag, cpiFlags]

@[simp] theorem interruptFlag_divFlags (v : Bool) : interruptFlag (divFlags v f) = interruptFlag f := by
  simp [interruptFlag, divFlags]

end FlagComputations

end Sys2Proof
end

section
/-! SUPPORT. What an instruction can do, said once. All but eight instructions are built from register writes, flag updates
that keep I, byte accesses through the router, and the model's own bookkeeping: `Ordinary`. The eight are the two bank
exchanges, HALT, DI, EI, SWI, RETI and POP AF; `Effect` adds one constructor for each. A property that every constructor
keeps is then one of every instruction. -/

namespace Sys2Proof.Machine

/-- `t` is reached from `s` by register writes, updates of F that keep I, byte accesses and bookkeeping. -/
inductive Ordinary (s : State) : State → Prop where
  | refl : Ordinary s s
  | setGen {t : State} (h : Ordinary s t) (g : GenBank) : Ordinary s (t.setGen g)
  | setA {t : State} (h : Ordinary s t) (v : Byte) : Ordinary s (t.set8 .a v)
  | setF {t : State} (h : Ordinary s t) {f : Byte} (hf : interruptFlag f = interruptFlag t.f) : Ordinary s (t.setF f)
  | setIx {t : State} (h : Ordinary s t) (w : Word) : Ordinary s (t.setIx w)
  | setIy {t : State} (h : Ordinary s t) (w : Word) : Ordinary s (t.setIy w)
  | setSp {t : State} (h : Ordinary s t) (w : Word) : Ordinary s (t.setSp w)
  | setPc {t : State} (h : Ordinary s t) (w : Word) : Ordinary s (t.setPc w)
  | read8 {t : State} (h : Ordinary s t) (a : Addr) : Ordinary s (read8 a t).2
  | write8 {t : State} (h : Ordinary s t) (a : Addr) (v : Byte) : Ordinary s (write8 a v t)
  | setCost {t : State} (h : Ordinary s t) (n : Nat) : Ordinary s (t.setCost n)
  | takeFree {t : State} (h : Ordinary s t) : Ordinary s t.takeFree

namespace Ordinary

variable {s t : State}

/-- A write of an 8-bit register is a write of a bank or of A. -/
theorem set8 (h : Ordinary s t) (r : Reg8) (v : Byte) : Ordinary s (t.set8 r v) := by
  cases r with
  | a => exact h.setA v
  | b | c | d | e | h | l => exact h.setGen _

/-- A write of a 16-bit register is a write of a bank, IX, IY or SP. -/
theorem set16 (h : Ordinary s t) (g : Reg16) (w : Word) : Ordinary s (t.set16 g w) := by
  cases g with
  | bc | de | hl => exact h.setGen _
  | ix => exact h.setIx w
  | iy => exact h.setIy w
  | sp => exact h.setSp w

theorem read16 (h : Ordinary s t) (a : Addr) : Ordinary s (read16 a t).2 := (h.read8 a).read8 (nextAddr a)

theorem write16 (h : Ordinary s t) (a : Addr) (v : Word) : Ordinary s (write16 a v t) := (h.write8 a _).write8 _ _

theorem push16 (h : Ordinary s t) (v : Word) : Ordinary s (push16 v t) := (h.setSp _).write16 _ v

theorem pop16 (h : Ordinary s t) : Ordinary s (pop16 t).2 := (h.read16 _).setSp _

/-- One of two ordinary outcomes. -/
theorem ite {u : State} {c : Prop} [Decidable c] (ht : Ordinary s t) (hu : Ordinary s u) :
    Ordinary s (if c then t else u) := by
  split
  · exact ht
  · exact hu

/-- A PC write under a condition. -/
theorem jumpIf (h : Ordinary s t) (c : Bool) (w : Word) : Ordinary s (jumpIf c w t) := (h.setPc w).ite h

end Ordinary

/-! ### The shared operations of the meanings, in the order of the model's files -/

section SharedOperations

variable (s : State)

theorem ordinary_aluHl (op : AluOp) (b : Word) {t : State} (h : Ordinary s t) : Ordinary s (aluHl op b t) :=
  ((h.set16 .hl _).ite h).setF (by split <;> simp)

theorem ordinary_aluHlMem (op : AluOp) (m : Mem) : Ordinary s (aluHlMem op m s) :=
  ordinary_aluHl s op _ (.read16 .refl _)

theorem ordinary_addX (x : RegX) (b : Word) {t : State} (h : Ordinary s t) : Ordinary s (addX x b t) :=
  (h.set16 _ _).setF (by simp)

theorem ordinary_addXMem (x : RegX) (m : Mem) : Ordinary s (addXMem x m s) := ordinary_addX s x _ (.read16 .refl _)

theorem ordinary_aluA (op : AluOp) (b : Byte) {t : State} (h : Ordinary s t) : Ordinary s (aluA op b t) :=
  ((h.set8 .a _).ite h).setF (by split <;> simp)

theorem ordinary_aluAMem (op : AluOp) (m : Mem) : Ordinary s (aluAMem op m s) := ordinary_aluA s op _ (.read8 .refl _)

theorem ordinary_aluRN (op : AluOp) (p : Reg8) (n : Byte) : Ordinary s (aluRN op p n s) :=
  ((Ordinary.refl.set8 p _).ite .refl).setF (by split <;> simp)

theorem ordinary_aluMemN (op : AluOp) (m : Mem) (n : Byte) : Ordinary s (aluMemN op m n s) :=
  (((Ordinary.refl.read8 _).write8 _ _).ite (.read8 .refl _)).setF (by split <;> simp)

theorem ordinary_testBit (b : BitNo) (v : Byte) {t : State} (h : Ordinary s t) : Ordinary s (testBit b v t) :=
  (h.setF (by simp)).takeFree

theorem ordinary_bitMem (b : BitNo) (m : Mem) : Ordinary s (bitMem b m s) := ordinary_testBit s b _ (.read8 .refl _)

theorem ordinary_setMem (b : BitNo) (m : Mem) : Ordinary s (setMem b m s) := (Ordinary.refl.read8 _).write8 _ _

theorem ordinary_resMem (b : BitNo) (m : Mem) : Ordinary s (resMem b m s) := (Ordinary.refl.read8 _).write8 _ _

theorem ordinary_tsetReg (b : BitNo) (p : Reg8) : Ordinary s (tsetReg b p s) := (ordinary_testBit s b _ .refl).set8 p _

theorem ordinary_tsetMem (b : BitNo) (m : Mem) : Ordinary s (tsetMem b m s) :=
  (ordinary_testBit s b _ (.read8 .refl _)).write8 _ _

theorem ordinary_ldElement (d : Word) : Ordinary s (ldElement d s).1 :=
  (((Ordinary.refl.read8 _).write8 _ _).setGen _).setF (by simp)

theorem ordinary_cpElement (d : Word) : Ordinary s (cpElement d s).1 := ((Ordinary.refl.read8 _).setGen _).setF (by simp)

theorem ordinary_repeatWhile {r : State × Bool} (h : Ordinary s r.1) : Ordinary s (repeatWhile r).1 := (h.setPc _).ite h

theorem ordinary_callIf (c : Bool) (w : Word) : Ordinary s (callIf c w s) := ((Ordinary.refl.push16 _).setPc w).ite .refl

theorem ordinary_retIf (c : Bool) : Ordinary s (retIf c s) := (Ordinary.refl.pop16.setPc _).ite .refl

theorem ordinary_djnz (e : Byte) : Ordinary s (djnz e s).1 :=
  ((Ordinary.refl.set8 .b _).setPc _).ite (Ordinary.refl.set8 .b _)

theorem ordinary_djnzBc (e : Byte) : Ordinary s (djnzBc e s).1 :=
  ((Ordinary.refl.set16 .bc _).setPc _).ite (Ordinary.refl.set16 .bc _)

theorem ordinary_incReg (r : Reg8) : Ordinary s (incReg r s) := (Ordinary.refl.set8 r _).setF (by simp)

theorem ordinary_decReg (r : Reg8) : Ordinary s (decReg r s) := (Ordinary.refl.set8 r _).setF (by simp)

theorem ordinary_incMem8 (m : Mem) : Ordinary s (incMem8 m s) := ((Ordinary.refl.read8 _).write8 _ _).setF (by simp)

theorem ordinary_decMem8 (m : Mem) : Ordinary s (decMem8 m s) := ((Ordinary.refl.read8 _).write8 _ _).setF (by simp)

theorem ordinary_incwMem (m : Mem) : Ordinary s (incwMem m s) := ((Ordinary.refl.read16 _).write16 _ _).setF (by simp)

theorem ordinary_decwMem (m : Mem) : Ordinary s (decwMem m s) := ((Ordinary.refl.read16 _).write16 _ _).setF (by simp)

theorem ordinary_incx (u : Byte) : Ordinary s (incx u s).1 := (ordinary_incMem8 s _).ite .refl

theorem ordinary_decx (u : Byte) : Ordinary s (decx u s).1 := (ordinary_decMem8 s _).ite .refl

theorem ordinary_neg : Ordinary s (neg s) := (Ordinary.refl.set8 .a _).setF (by simp)

theorem ordinary_cpl : Ordinary s (cpl s) := (Ordinary.refl.set8 .a _).setF (by simp)

theorem ordinary_daa : Ordinary s (daa s) := (Ordinary.refl.set8 .a _).setF (by simp)

theorem ordinary_loadR (r : Reg8) (m : Mem) : Ordinary s (loadR r m s) := (Ordinary.refl.read8 _).set8 r _

theorem ordinary_loadG (g : Reg16) (m : Mem) : Ordinary s (loadG g m s) := (Ordinary.refl.read16 _).set16 g _

theorem ordinary_exMem (m : Mem) (g : Reg16) : Ordinary s (exMem m g s) :=
  ((Ordinary.refl.read16 _).write16 _ _).set16 g _

/-- A pop of any pair but AF. -/
theorem ordinary_popQ {q : RegQ} (hq : q ≠ .af) : Ordinary s (popQ q s) := by
  have popped : Ordinary s (pop16 s).2 := .pop16 .refl
  cases q with
  | bc | de | hl => exact popped.setGen _
  | ix => exact popped.setIx _
  | iy => exact popped.setIy _
  | af => exact absurd rfl hq

theorem ordinary_mulBy (v : Byte) {t : State} (h : Ordinary s t) : Ordinary s (mulBy v t) := h.set16 .hl _

theorem ordinary_divBy (v : Byte) {t : State} (h : Ordinary s t) : Ordinary s (divBy v t) :=
  ((h.set16 .hl _).setF (by simp)).ite ((h.set16 .hl _).setF (by simp))

theorem ordinary_rotA (op : RotOp) : Ordinary s (rotA op s) := (Ordinary.refl.set8 .a _).setF (by simp)

theorem ordinary_rotReg (op : RotOp) (p : Reg8) : Ordinary s (rotReg op p s) := (Ordinary.refl.set8 p _).setF (by simp)

theorem ordinary_rotMem (op : RotOp) (m : Mem) : Ordinary s (rotMem op m s) :=
  ((Ordinary.refl.read8 _).write8 _ _).setF (by simp)

theorem ordinary_digitRotate (f : Byte → Byte → Byte × Byte) (m : Mem) : Ordinary s (digitRotate f m s) :=
  (((Ordinary.refl.read8 _).write8 _ _).set8 .a _).setF (by simp)

end SharedOperations

end Sys2Proof.Machine
end

section
/-! SUPPORT. Every instruction, once: `exec` answers a next state, and `Effect` says which. -/

namespace Sys2Proof.Machine

/-- What an instruction can do: an ordinary change, or the one change of its own. -/
inductive Effect (s : State) : Instr → State → Prop where
  | ordinary {i : Instr} {t : State} (h : Ordinary s t) : Effect s i t
  | exx (n : Nat) : Effect s .exx (s.swapGen.setCost n)
  | exAfAf (n : Nat) : Effect s .exAfAf (s.swapAf.setCost n)
  | halt (n : Nat) : Effect s .halt ((halt s).setCost n)
  | di (n : Nat) : Effect s .di ((di s).setCost n)
  | ei (n : Nat) : Effect s .ei ((ei s).setCost n)
  | swi (n : Nat) : Effect s .swi ((swi s).setCost n)
  | reti (n : Nat) : Effect s .reti ((returnFromInterrupt s).setCost n)
  | popAf (n : Nat) : Effect s (.pop .af) ((popQ .af s).setCost n)

/-- The meaning of `i` in `s` answered a next state, as `Effect` says. -/
def Answers (s : State) (i : Instr) (o : Res) : Prop := ∃ t, o = .next t ∧ Effect s i t

/-- An ordinary change with the cost of its row. -/
theorem Ordinary.done {s t : State} (h : Ordinary s t) {i : Instr} {row dflt : Nat} : Answers s i (done t row dflt) :=
  ⟨_, rfl, .ordinary (h.setCost _)⟩

/-- An ordinary change with one of the two costs of its row. -/
theorem Ordinary.doneIf {s : State} {r : State × Bool} (h : Ordinary s r.1) {i : Instr} {row ifTrue ifFalse : Nat} :
    Answers s i (doneIf r row ifTrue ifFalse) :=
  ⟨_, rfl, .ordinary (h.setCost _)⟩

/-- Every instruction answers a next state, and `Effect` says which. -/
theorem exec_effect (i : Instr) (s : State) : Answers s i (exec i s) := by
  cases i with
  -- the eight with a change of their own
  | exx => exact ⟨_, rfl, .exx _⟩
  | exAfAf => exact ⟨_, rfl, .exAfAf _⟩
  | halt => exact ⟨_, rfl, .halt _⟩
  | di => exact ⟨_, rfl, .di _⟩
  | ei => exact ⟨_, rfl, .ei _⟩
  | swi => exact ⟨_, rfl, .swi _⟩
  | reti => exact ⟨_, rfl, .reti _⟩
  | pop q =>
    by_cases hq : q = .af
    · subst hq
      exact ⟨_, rfl, .popAf _⟩
    · exact (ordinary_popQ s hq).done
  -- 16-bit ALU
  | addHlAtU | adcHlAtU | subHlAtU | sbcHlAtU | andHlAtU | xorHlAtU | orHlAtU | cpHlAtU
  | addHlAt | adcHlAt | subHlAt | sbcHlAt | andHlAt | xorHlAt | orHlAt | cpHlAt => exact (ordinary_aluHlMem s _ _).done
  | addHlW | adcHlW | subHlW | sbcHlW | andHlW | xorHlW | orHlW | cpHlW
  | addHlG | adcHlG | subHlG | sbcHlG | andHlG | xorHlG | orHlG | cpHlG => exact (ordinary_aluHl s _ _ .refl).done
  | addXW | addXG => exact (ordinary_addX s _ _ .refl).done
  | addXAt => exact (ordinary_addXMem s _ _).done
  -- 8-bit ALU
  | addAAtU | adcAAtU | subAAtU | sbcAAtU | andAAtU | xorAAtU | orAAtU | cpAAtU
  | addAAt | adcAAt | subAAt | sbcAAt | andAAt | xorAAt | orAAt | cpAAt => exact (ordinary_aluAMem s _ _).done
  | addAN | adcAN | subAN | sbcAN | andAN | xorAN | orAN | cpAN
  | addAR | adcAR | subAR | sbcAR | andAR | xorAR | orAR | cpAR => exact (ordinary_aluA s _ _ .refl).done
  | addRN | adcRN | subRN | sbcRN | andRN | xorRN | orRN | cpRN => exact (ordinary_aluRN s _ _ _).done
  | addAtN | adcAtN | subAtN | sbcAtN | andAtN | xorAtN | orAtN | cpAtN => exact (ordinary_aluMemN s _ _ _).done
  -- bits and the carry flag
  | bitAtU | bitAt => exact (ordinary_bitMem s _ _).done
  | resAtU | resAt => exact (ordinary_resMem s _ _).done
  | setAtU | setAt => exact (ordinary_setMem s _ _).done
  | tsetAt => exact (ordinary_tsetMem s _ _).done
  | tsetR => exact (ordinary_tsetReg s _ _).done
  | bitR => exact (ordinary_testBit s _ _ .refl).done
  | resR | setR => exact (Ordinary.refl.set8 _ _).done
  | rcf | scf | ccf => exact (Ordinary.refl.setF (by simp)).done
  -- block
  | ldi | ldd => exact (ordinary_ldElement s _).done
  | ldir | lddr => exact (ordinary_repeatWhile s (ordinary_ldElement s _)).doneIf
  | cpi | cpd => exact (ordinary_cpElement s _).done
  | cpir | cpdr => exact (ordinary_repeatWhile s (ordinary_cpElement s _)).doneIf
  -- control transfer
  | djnz => exact (ordinary_djnz s _).doneIf
  | djnzBc => exact (ordinary_djnzBc s _).doneIf
  | jp | jrl => exact (Ordinary.refl.jumpIf _ _).done
  | jr | jpCc => exact (Ordinary.refl.jumpIf _ _).doneIf
  | call | callr => exact (ordinary_callIf s _ _).done
  | callCc => exact (ordinary_callIf s _ _).doneIf
  | ret => exact (ordinary_retIf s _).done
  | retCc => exact (ordinary_retIf s _).doneIf
  -- increment, decrement, adjust
  | incR => exact (ordinary_incReg s _).done
  | decR => exact (ordinary_decReg s _).done
  | incAtU | incAt => exact (ordinary_incMem8 s _).done
  | decAtU | decAt => exact (ordinary_decMem8 s _).done
  | incwAtU | incwAt => exact (ordinary_incwMem s _).done
  | decwAtU | decwAt => exact (ordinary_decwMem s _).done
  | incx => exact (ordinary_incx s _).doneIf
  | decx => exact (ordinary_decx s _).doneIf
  | neg => exact (ordinary_neg s).done
  | cpl => exact (ordinary_cpl s).done
  | daa => exact (ordinary_daa s).done
  -- loads, stores, exchanges
  | ldAR | ldRA | ldRN | ldRR => exact (Ordinary.refl.set8 _ _).done
  | ldGW | ldHlG | ldGHl | ldGG | incG | decG | lda | ldar => exact (Ordinary.refl.set16 _ _).done
  | ldAAtU | ldRAt => exact (ordinary_loadR s _ _).done
  | ldHlAtU | ldGAt => exact (ordinary_loadG s _ _).done
  | ldAtUA | ldAtR | ldAtUN | ldAtN => exact (Ordinary.refl.write8 _ _).done
  | ldAtUHl | ldAtG | ldwAtU | ldwAt => exact (Ordinary.refl.write16 _ _).done
  | push => exact (Ordinary.refl.push16 _).done
  | exDeHl => exact (Ordinary.refl.setGen _).done
  | exAt => exact (ordinary_exMem s _ _).done
  -- multiply, divide
  | mulN | mulR => exact (ordinary_mulBy s _ .refl).done
  | mulAt => exact (ordinary_mulBy s _ (.read8 .refl _)).done
  | divN | divR => exact (ordinary_divBy s _ .refl).done
  | divAt => exact (ordinary_divBy s _ (.read8 .refl _)).done
  -- rotates
  | rlca | rrca | rla | rra | slaa | sraa | slla | srla => exact (ordinary_rotA s _).done
  | rlcR | rrcR | rlR | rrR | slaR | sraR | sllR | srlR => exact (ordinary_rotReg s _ _).done
  | rlcAt | rrcAt | rlAt | rrAt | slaAt | sraAt | sllAt | srlAt => exact (ordinary_rotMem s _ _).done
  | rldAt | rrdAt => exact (ordinary_digitRotate s _ _).done
  | nop => exact Ordinary.refl.done

end Sys2Proof.Machine
end

section
/-! SUPPORT. What an ordinary change keeps, and the two statements about all instructions that follow. -/

namespace Sys2Proof.Machine

/-- The bank selectors, `halted`, `after_ei`, `residual`, the line levels and the parameters are as before. -/
structure SameContext (s t : State) : Prop where
  gsel : t.gsel = s.gsel
  asel : t.asel = s.asel
  halted : t.halted = s.halted
  afterEi : t.afterEi = s.afterEi
  residual : t.residual = s.residual
  line : t.line = s.line
  cfg : t.cfg = s.cfg

/-- An ordinary change keeps the selectors and the context. -/
theorem Ordinary.context {s t : State} (h : Ordinary s t) : SameContext s t := by
  induction h with
  | refl => exact ⟨rfl, rfl, rfl, rfl, rfl, rfl, rfl⟩
  | read8 _ a ih | write8 _ a v ih =>
    obtain ⟨hg, ha, hh, he, hr, hl, hc⟩ := ih
    constructor <;> simpa
  | _ =>
    rename_i ih
    exact ⟨ih.gsel, ih.asel, ih.halted, ih.afterEi, ih.residual, ih.line, ih.cfg⟩

/-- An ordinary change keeps I. -/
theorem Ordinary.interruptFlag_eq {s t : State} (h : Ordinary s t) : interruptFlag t.f = interruptFlag s.f := by
  induction h with
  | refl => rfl
  | setF _ hf ih => rw [State.setF_f, hf, ih]
  | setA _ v ih => rw [State.set8_f, ih]
  | read8 _ a ih => rw [read8_f, ih]
  | write8 _ a v ih => rw [write8_f, ih]
  | _ =>
    rename_i ih
    exact ih

/-- The pushes of an acceptance are ordinary. -/
theorem ordinary_pushFrame (i : Fin 14) (ret : Word) (s : State) : Ordinary s (pushFrame i ret s) :=
  have pushed := Ordinary.refl.push16 ret
  (pushed.push16 _).ite pushed

/-- An acceptance clears `halted`, and changes no selector and nothing else of the context. -/
theorem accept_context (i : Fin 14) (ret : Word) (s : State) : SameContext { s with halted := false } (accept i ret s) := by
  obtain ⟨hg, ha, -, he, hr, hl, hc⟩ := (ordinary_pushFrame i ret s).context
  unfold accept
  dsimp only
  split <;> constructor <;> simp [hg, ha, he, hr, hl, hc]

end Sys2Proof.Machine

section Statements

open Sys2Proof Sys2Proof.Machine

/-- Settles O28: an ordinary change keeps all of it, and each of the eight others changes its own item alone. -/
theorem selectorsAndContext : Obligations.SelectorsAndContext := by
  intro i s t h
  obtain ⟨u, hu, effect⟩ := exec_effect i s
  obtain rfl : u = t := by simpa [hu] using h
  cases effect with
  | ordinary h =>
    obtain ⟨hg, ha, hh, he, hr, hl, hc⟩ := h.context
    simp [hg, ha, hh, he, hr, hl, hc]
  | exx | exAfAf => simp
  | halt => simp [Machine.halt]
  | di | ei => simp [Machine.di, Machine.ei]
  | reti => simp [returnFromInterrupt]
  | popAf => simp [popQ]
  | swi =>
    obtain ⟨hg, ha, hh, he, hr, hl, hc⟩ := accept_context 0 s.pc s
    simp [Machine.swi, hg, ha, hh, he, hr, hl, hc]

/-- Settles O29: an ordinary change keeps I, and of the eight others only EXX, HALT, and EI remain, which keep F. -/
theorem interruptEnableKept : Obligations.InterruptEnableKept := by
  intro i s t h hdi hswi hreti hpop hex
  obtain ⟨u, hu, effect⟩ := exec_effect i s
  obtain rfl : u = t := by simpa [hu] using h
  cases effect with
  | ordinary h => exact h.interruptFlag_eq
  | exx | halt | ei => rfl
  | di => exact absurd rfl hdi
  | swi => exact absurd rfl hswi
  | reti => exact absurd rfl hreti
  | popAf => exact absurd rfl hpop
  | exAfAf => exact absurd rfl hex
end Statements
end

section
/-! SUPPORT. The bits of the control registers, read and written (spec 10 R42 to R49). -/

namespace Sys2Proof.Machine

/-! ### Bits of the constants and concatenations that the registers are made of -/

/-- The writable bits of IRFL: all but source 3 (R48). -/
theorem getLsbD_irflBits (j : Nat) : (0xF7#8).getLsbD j = decide (j < 8 ∧ j ≠ 3) := by
  by_cases hj : j < 8
  · revert j
    decide
  · simp [hj, BitVec.getLsbD_of_ge _ _ (Nat.le_of_not_lt hj)]

/-- The sources whose request is a latch: all but SWI and source 3 (R315). -/
theorem getLsbD_latchBits (j : Nat) : (0x3FF6#14).getLsbD j = decide (j < 14 ∧ j ≠ 0 ∧ j ≠ 3) := by
  by_cases hj : j < 14
  · revert j
    decide
  · simp [hj, BitVec.getLsbD_of_ge _ _ (Nat.le_of_not_lt hj)]

/-- The source whose request is a line level: source 3 (R315). -/
theorem getLsbD_levelBits (j : Nat) : (0x0008#14).getLsbD j = decide (j = 3) := by
  by_cases hj : j < 14
  · revert j
    decide
  · simp [show j ≠ 3 by omega, BitVec.getLsbD_of_ge _ _ (Nat.le_of_not_lt hj)]

/-- The request of a source (R315). -/
theorem req_getLsbD (s : State) (j : Nat) :
    s.req.getLsbD j = if j = 3 then s.line.getLsbD 3 else s.pending.getLsbD j && decide (j ≠ 0) := by
  unfold State.req
  rw [BitVec.getLsbD_or, BitVec.getLsbD_and, BitVec.getLsbD_and, getLsbD_latchBits, getLsbD_levelBits]
  by_cases hj : j < 14
  · by_cases h3 : j = 3 <;> simp [h3, hj]
  · simp [show j ≠ 3 by omega, BitVec.getLsbD_of_ge _ _ (Nat.le_of_not_lt hj)]

/-- Four 2-bit fields in one byte, timer 3's at the top (R42, R43). -/
theorem extractLsb'_fields (f : Fin 4 → BitVec 2) (i : Fin 4) :
    (f 3 ++ f 2 ++ f 1 ++ f 0 : Byte).extractLsb' (2 * i.val) 2 = f i := by
  generalize h3 : f 3 = c3
  generalize h2 : f 2 = c2
  generalize h1 : f 1 = c1
  generalize h0 : f 0 = c0
  have split : ∀ a b c d : BitVec 2, (a ++ b ++ c ++ d : Byte).extractLsb' 0 2 = d ∧
      (a ++ b ++ c ++ d : Byte).extractLsb' 2 2 = c ∧ (a ++ b ++ c ++ d : Byte).extractLsb' 4 2 = b ∧
      (a ++ b ++ c ++ d : Byte).extractLsb' 6 2 = a := by decide
  obtain ⟨e0, e1, e2, e3⟩ := split c3 c2 c1 c0
  match i with
  | 0 => rw [h0]; exact e0
  | 1 => rw [h1]; exact e1
  | 2 => rw [h2]; exact e2
  | 3 => rw [h3]; exact e3

/-! ### Latches and masks after a write -/

/-- A 1 written to IRFL clears the latch of that source, but for source 3 (R48). -/
theorem ioWrite_irfl_pending (v : Byte) (s : State) (j : Nat) :
    (ioWrite .irfl v s).pending.getLsbD j = (s.pending.getLsbD j && !(decide (j < 8 ∧ j ≠ 3) && v.getLsbD j)) := by
  have low : (0#6 ++ (v &&& 0xF7#8)).getLsbD j = (decide (j < 8 ∧ j ≠ 3) && v.getLsbD j) := by
    rw [BitVec.getLsbD_append, BitVec.getLsbD_and, getLsbD_irflBits]
    by_cases hj : j < 8 <;> simp [hj, Bool.and_comm]
  by_cases hj : j < 14
  · simp only [ioWrite, State.setPending_pending, BitVec.getLsbD_and, BitVec.getLsbD_not, hj, decide_true, Bool.true_and]
    rw [← low]
  · simp [BitVec.getLsbD_of_ge _ _ (Nat.le_of_not_lt hj)]

/-- A 1 written to IRFH clears the latch of that source (R48). -/
theorem ioWrite_irfh_pending (v : Byte) (s : State) (j : Nat) :
    (ioWrite .irfh v s).pending.getLsbD j = (s.pending.getLsbD j && !(decide (8 ≤ j ∧ j < 14) && v.getLsbD (j - 8))) := by
  have high : (v.extractLsb' 0 6 ++ 0#8).getLsbD j = (decide (8 ≤ j ∧ j < 14) && v.getLsbD (j - 8)) := by
    rw [BitVec.getLsbD_append, BitVec.getLsbD_extractLsb']
    by_cases hj : j < 8
    · simp [hj]
    · simp [hj, show j - 8 < 6 ↔ j < 14 by omega, Nat.le_of_not_lt hj]
  by_cases hj : j < 14
  · simp only [ioWrite, State.setPending_pending, BitVec.getLsbD_and, BitVec.getLsbD_not, hj, decide_true, Bool.true_and]
    rw [high]
    simp [hj]
  · simp [BitVec.getLsbD_of_ge _ _ (Nat.le_of_not_lt hj)]

/-- INTEL holds the masks of sources 3 to 7 (R47). -/
theorem ioWrite_intel_mask (v : Byte) (s : State) (j : Nat) :
    (ioWrite .intel v s).mask.getLsbD j = if 8 ≤ j then s.mask.getLsbD j else decide (3 ≤ j) && v.getLsbD j := by
  change (s.mask.extractLsb' 8 6 ++ v.extractLsb' 3 5 ++ 0#3).getLsbD j = _
  rw [BitVec.getLsbD_append, BitVec.getLsbD_append, BitVec.getLsbD_extractLsb', BitVec.getLsbD_extractLsb']
  by_cases h3 : j < 3
  · simp [h3, show ¬8 ≤ j by omega]
  · by_cases h8 : 8 ≤ j
    · have top : s.mask.getLsbD j = true → j < 14 := BitVec.lt_of_getLsbD
      have inside : j - 3 - 5 < 6 ↔ j < 14 := by omega
      simpa [h3, h8, show ¬j - 3 < 5 by omega, show 8 + (j - 3 - 5) = j by omega, inside] using top
    · simp [h3, h8, show j - 3 < 5 by omega, show 3 + (j - 3) = j by omega, Nat.le_of_not_lt h3]

/-- INTEH holds the masks of sources 8 to 13 (R47). -/
theorem ioWrite_inteh_mask (v : Byte) (s : State) (j : Nat) (hj : j < 14) :
    (ioWrite .inteh v s).mask.getLsbD j = if 8 ≤ j then v.getLsbD (j - 8) else s.mask.getLsbD j := by
  change (v.extractLsb' 0 6 ++ s.mask.extractLsb' 0 8).getLsbD j = _
  rw [BitVec.getLsbD_append, BitVec.getLsbD_extractLsb', BitVec.getLsbD_extractLsb']
  by_cases h8 : 8 ≤ j
  · simp [h8, show ¬j < 8 by omega, show j - 8 < 6 by omega]
  · simp [h8, show j < 8 by omega]

end Sys2Proof.Machine
end

section
/-! SUPPORT. The machine invariant under each state operation, then under a step (spec 10 R38, R39; 60 R318; 70 R392). -/

namespace Sys2Proof.Machine

/-! ### Rules for the parts that the invariant speaks of -/

/-- Every timer replaced at once by timers whose prescalers are in range. -/
theorem MachineInv.withTimers {s : State} (h : MachineInv s) {t0 t1 t2 t3 : Timer8} {t4 : Timer16}
    (h0 : t0.presc.toNat ≤ 255) (h1 : t1.presc.toNat ≤ 255) (h2 : t2.presc.toNat ≤ 255) (h3 : t3.presc.toNat ≤ 255)
    (h4 : t4.presc.toNat ≤ 255) : MachineInv { s with t0 := t0, t1 := t1, t2 := t2, t3 := t3, t4 := t4 } := by
  obtain ⟨hmem, hmask, hpending, hline, -⟩ := h
  exact ⟨hmem, hmask, hpending, hline, h0, h1, h2, h3, h4⟩

/-- The prescaler of an 8-bit timer is in range. -/
theorem MachineInv.timer8_presc {s : State} (h : MachineInv s) (i : Fin 4) : (s.timer8 i).presc.toNat ≤ 255 := by
  obtain ⟨-, -, -, -, h0, h1, h2, h3, -⟩ := h
  match i with
  | 0 => exact h0
  | 1 => exact h1
  | 2 => exact h2
  | 3 => exact h3

/-- The prescaler of timer 4 is in range. -/
theorem MachineInv.timer16_presc {s : State} (h : MachineInv s) : s.t4.presc.toNat ≤ 255 := by
  obtain ⟨-, -, -, -, -, -, -, -, h4⟩ := h
  exact h4

/-- An 8-bit timer replaced by one whose prescaler is in range. -/
theorem MachineInv.setTimer8 {s : State} (h : MachineInv s) (i : Fin 4) {t : Timer8} (ht : t.presc.toNat ≤ 255) :
    MachineInv (s.setTimer8 i t) := by
  obtain ⟨-, -, -, -, h0, h1, h2, h3, h4⟩ := id h
  exact h.withTimers (by split <;> assumption) (by split <;> assumption) (by split <;> assumption)
    (by split <;> assumption) h4

/-- Timer 4 replaced by one whose prescaler is in range. -/
theorem MachineInv.setTimer16 {s : State} (h : MachineInv s) {t : Timer16} (ht : t.presc.toNat ≤ 255) :
    MachineInv (s.setTimer16 t) :=
  h.withTimers (h.timer8_presc 0) (h.timer8_presc 1) (h.timer8_presc 2) (h.timer8_presc 3) ht

/-- Request latches replaced by ones without the bits of SWI and of source 3. -/
theorem MachineInv.setPending {s : State} (h : MachineInv s) {p : BitVec 14} (h0 : p.getLsbD 0 = false)
    (h3 : p.getLsbD 3 = false) : MachineInv (s.setPending p) := by
  obtain ⟨hmem, hmask, -, hline, hpresc⟩ := h
  exact ⟨hmem, hmask, ⟨h0, h3⟩, hline, hpresc⟩

/-- Request latches cleared, whichever. -/
theorem MachineInv.clearPending {s : State} (h : MachineInv s) (m : BitVec 14) :
    MachineInv (s.setPending (s.pending &&& m)) := by
  obtain ⟨-, -, ⟨h0, h3⟩, -, -⟩ := id h
  exact h.setPending (by rw [BitVec.getLsbD_and, h0, Bool.false_and])
    (by rw [BitVec.getLsbD_and, h3, Bool.false_and])

/-- A mask without the bits of the sources that have none. -/
theorem MachineInv.setMask {s : State} (h : MachineInv s) {m : BitVec 14} (h0 : m.getLsbD 0 = false)
    (h1 : m.getLsbD 1 = false) (h2 : m.getLsbD 2 = false) : MachineInv (s.setMask m) := by
  obtain ⟨hmem, -, hpending, hline, hpresc⟩ := h
  exact ⟨hmem, ⟨h0, h1, h2⟩, hpending, hline, hpresc⟩

/-- A request of a source other than SWI and source 3. -/
theorem MachineInv.raiseRequest {s : State} (h : MachineInv s) {i : Nat} (hi : 4 ≤ i) : MachineInv (raiseRequest i s) := by
  obtain ⟨-, -, ⟨h0, h3⟩, -, -⟩ := id h
  refine h.setPending ?_ ?_
  · rw [BitVec.getLsbD_or, h0, Bool.false_or, BitVec.getLsbD_shiftLeft]
    simp [show 0 < i by omega]
  · rw [BitVec.getLsbD_or, h3, Bool.false_or, BitVec.getLsbD_shiftLeft]
    simp [show 3 < i by omega]

/-! ### Accesses -/

/-- Starting or stopping an 8-bit timer keeps its prescaler in range. -/
theorem startStop8_presc_le {t : Timer8} (h : t.presc.toNat ≤ 255) (v : Bool) : (startStop8 v t).presc.toNat ≤ 255 := by
  unfold startStop8
  split
  · simp
  · exact h

/-- Starting or stopping timer 4 keeps its prescaler in range. -/
theorem startStop16_presc_le {t : Timer16} (h : t.presc.toNat ≤ 255) (v : Bool) : (startStop16 v t).presc.toNat ≤ 255 := by
  unfold startStop16
  split
  · simp
  · exact h

/-- A byte read keeps the invariant. -/
theorem MachineInv.read8 {s : State} (h : MachineInv s) (a : Addr) : MachineInv (read8 a s).2 := by
  obtain ⟨b, p, l, hs⟩ := read8_state a s
  rw [hs]
  exact h

/-- A control register write keeps the invariant. -/
theorem MachineInv.ioWrite {s : State} (h : MachineInv s) (r : IoReg) (v : Byte) : MachineInv (ioWrite r v s) := by
  obtain ⟨-, ⟨hm0, hm1, hm2⟩, -, -, h0, h1, h2, h3, h4⟩ := id h
  cases r with
  | port n =>
    unfold Machine.ioWrite writePort
    dsimp only
    split <;> exact h
  | irfl | irfh => exact h.clearPending _
  | treg i => exact h.setTimer8 i (h.timer8_presc i)
  | tclk | tmod => exact h.withTimers h0 h1 h2 h3 h4
  | trun =>
    exact h.withTimers (startStop8_presc_le h0 _) (startStop8_presc_le h1 _) (startStop8_presc_le h2 _)
      (startStop8_presc_le h3 _) (startStop16_presc_le h4 _)
  | treg4l | treg4h | t4mod => exact h.setTimer16 h4
  | intel =>
    exact h.setMask (ioWrite_intel_mask v s 0) (ioWrite_intel_mask v s 1) (ioWrite_intel_mask v s 2)
  | inteh =>
    exact h.setMask ((ioWrite_inteh_mask v s 0 (by omega)).trans hm0) ((ioWrite_inteh_mask v s 1 (by omega)).trans hm1)
      ((ioWrite_inteh_mask v s 2 (by omega)).trans hm2)
  | bx | bankY => exact h

/-- A byte write keeps the invariant. -/
theorem MachineInv.write8 {s : State} (h : MachineInv s) (a : Addr) (v : Byte) : MachineInv (write8 a v s) := by
  unfold Machine.write8
  split
  · exact h.ioWrite _ v
  · unfold memWrite8
    obtain ⟨hmem, rest⟩ := id h
    split
    · exact ⟨Memory.write_wf hmem a v, rest⟩
    · exact h
    · exact h

/-- An ordinary change keeps the invariant. -/
theorem Ordinary.keeps_invariant {s t : State} (h : Ordinary s t) (inv : MachineInv s) : MachineInv t := by
  induction h with
  | refl => exact inv
  | read8 _ a ih => exact ih.read8 a
  | write8 _ a v ih => exact ih.write8 a v
  | _ =>
    rename_i ih
    exact ih

/-- An acceptance keeps the invariant. -/
theorem MachineInv.accept {s : State} (h : MachineInv s) (i : Fin 14) (ret : Word) : MachineInv (accept i ret s) := by
  have frame : MachineInv (pushFrame i ret s) := (ordinary_pushFrame i ret s).keeps_invariant h
  have cleared := frame.clearPending (~~~(1#14 <<< i.val))
  unfold Machine.accept
  dsimp only
  split
  · exact frame
  · exact cleared

/-- Every instruction keeps the invariant. -/
theorem Effect.keeps_invariant {s t : State} {i : Instr} (h : Effect s i t) (inv : MachineInv s) : MachineInv t := by
  have popped : MachineInv (pop16 s).2 := (Ordinary.pop16 .refl).keeps_invariant inv
  cases h with
  | ordinary h => exact h.keeps_invariant inv
  | exx | exAfAf | halt | di | ei => exact inv
  | swi => exact inv.accept 0 s.pc
  | reti =>
    have withAf : MachineInv ((pop16 s).2.setAf (pop16 s).1) := popped
    exact (Ordinary.pop16 .refl).keeps_invariant withAf
  | popAf => exact popped

/-! ### Time -/

@[simp] theorem tick8_presc (t : Timer8) : (tick8 t).1.presc = t.presc := by
  unfold tick8
  split_ifs <;> rfl

@[simp] theorem tick16_presc (t : Timer16) : (tick16 t).1.presc = t.presc := by
  unfold tick16
  split_ifs <;> rfl

/-- No clock divides by more than 256 (60 R343). -/
theorem ratio_le (clk : Nat) : ratio clk ≤ 256 := by
  unfold ratio
  split <;> omega

/-- A prescaler below the ratio of its clock stays in range when it counts. -/
theorem presc_succ_le {p : BitVec 9} {clk : Nat} (h : ¬ratio clk ≤ p.toNat + 1) : (p + 1).toNat ≤ 255 := by
  have := ratio_le clk
  rw [BitVec.toNat_add, show (1 : BitVec 9).toNat = 1 from rfl]
  omega

theorem MachineInv.tickTimer16 {s : State} (h : MachineInv s) : MachineInv (tickTimer16 s) := by
  have ticked : MachineInv (s.setTimer16 (tick16 s.t4).1) := h.setTimer16 (by simpa using h.timer16_presc)
  unfold Machine.tickTimer16
  dsimp only
  split
  · exact ticked.raiseRequest (by omega)
  · exact ticked

theorem MachineInv.chain {s : State} (h : MachineInv s) (i : Fin 4) : MachineInv (chain i s) := by
  unfold Machine.chain
  split
  · exact h.tickTimer16
  · exact h

theorem MachineInv.tickTimer8 {s : State} (h : MachineInv s) (i : Fin 4) : MachineInv (tickTimer8 i s) := by
  have ticked : MachineInv (s.setTimer8 i (tick8 (s.timer8 i)).1) := h.setTimer8 i (by simpa using h.timer8_presc i)
  unfold Machine.tickTimer8
  dsimp only
  split
  · exact (ticked.raiseRequest (by omega)).chain i
  · exact ticked

theorem MachineInv.cycleTimer8 {s : State} (h : MachineInv s) (i : Fin 4) : MachineInv (cycleTimer8 i s) := by
  unfold Machine.cycleTimer8
  dsimp only
  split
  · split
    · exact (h.setTimer8 i (by simp)).tickTimer8 i
    · exact h.setTimer8 i (presc_succ_le ‹_›)
  · exact h

theorem MachineInv.cycleTimer16 {s : State} (h : MachineInv s) : MachineInv (cycleTimer16 s) := by
  unfold Machine.cycleTimer16
  dsimp only
  split
  · split
    · exact (h.setTimer16 (by simp)).tickTimer16
    · exact h.setTimer16 (presc_succ_le ‹_›)
  · exact h

/-- The passage of time keeps the invariant, cycle by cycle. -/
theorem MachineInv.advanceTimers {s : State} (h : MachineInv s) (n : Nat) : MachineInv (advanceTimers n s) := by
  induction n generalizing s with
  | zero => exact h
  | succ n ih =>
    exact ih ((((h.cycleTimer8 0).cycleTimer8 1).cycleTimer8 2).cycleTimer8 3).cycleTimer16

/-! ### A step -/

/-- Reading the bytes of an instruction is ordinary. -/
theorem ordinary_runDec (d : Dec) {s t : State} (h : Ordinary s t) : Ordinary s (runDec d t).2 := by
  induction d generalizing t with
  | instr | unknown => exact h
  | more k ih => exact ih _ ((h.read8 _).setPc _)

/-- So is the fetch of a whole instruction. -/
theorem ordinary_fetchDecode (s : State) : Ordinary s (fetchDecode s).2 := ordinary_runDec _ .refl

/-- The end of an instruction step keeps the invariant. -/
theorem MachineInv.finish {s : State} (h : MachineInv s) (deferred isEi : Bool) : MachineInv (finish deferred isEi s) := by
  refine MachineInv.advanceTimers ?_ _
  unfold deferredEnable
  split <;> exact h

/-- An instruction step keeps the invariant. -/
theorem MachineInv.stepInstr {s t : State} (h : MachineInv s) (ht : stepInstr s = .next t) : MachineInv t := by
  have fetched : MachineInv (fetchDecode s).2 := (ordinary_fetchDecode s).keeps_invariant h
  unfold Machine.stepInstr at ht
  split at ht
  next s1 hs1 =>
    rw [hs1] at fetched
    obtain rfl := Host.Outcome.next.inj ht
    have unchanged : MachineInv (unknownOp s1) := fetched
    exact unchanged.finish _ _
  next i s1 hs1 =>
    rw [hs1] at fetched
    obtain ⟨u, hu, effect⟩ := exec_effect i s1
    rw [hu] at ht
    obtain rfl := Host.Outcome.next.inj ht
    exact (effect.keeps_invariant fetched).finish _ _

end Sys2Proof.Machine

section Statements

open Sys2Proof Sys2Proof.Machine

/-- Settles O3, along the three kinds of step: an acceptance, an idle cycle, an instruction. -/
theorem stepKeepsInvariant : Obligations.StepKeepsInvariant := by
  intro s t inv h
  unfold Machine.step at h
  split at h
  next i _ =>
    obtain rfl := Host.Outcome.next.inj h
    have accepted : MachineInv (accept i s.pc s) := inv.accept i s.pc
    exact MachineInv.advanceTimers (s := (accept i s.pc s).setCost s.cfg.intCost.val) accepted _
  next =>
    split at h
    · obtain rfl := Host.Outcome.next.inj h
      exact MachineInv.advanceTimers (s := s.setCost 1) inv _
    · exact inv.stepInstr h

end Statements
end

section
/-! SUPPORT. Frames of changes that write no register: what stays when only the context, the interrupt bits, the timers, the
bank registers or what stands outside is replaced. -/

namespace Sys2Proof.Machine

open Sys2Proof.Rules

/-- No change keeps the system. -/
theorem SameSystem.refl (s : State) : SameSystem s s :=
  ⟨⟨rfl, rfl, rfl⟩, ⟨rfl, rfl, rfl⟩, ⟨rfl, rfl, rfl, rfl, rfl⟩, ⟨rfl, rfl⟩, ⟨rfl, rfl, rfl⟩, rfl⟩

/-- A replacement of memory or of fields that are no registers keeps every register. -/
theorem sameRegs_update {s : State} {pc : Word} {halted afterEi : Bool} {residual : Nat} {pending mask line : BitVec 14}
    {t0 t1 t2 t3 : Timer8} {t4 : Timer16} {bankX bankY : BitVec 4} {mem : Memory} {bus : List Byte}
    {ports : Vector PortWire 9} {log : List CallEvent} {cost freeCount : Nat} {cfg : Params} :
    SameRegs [] [] s { s with
      pc := pc, halted := halted, afterEi := afterEi, residual := residual, pending := pending, mask := mask,
      line := line, t0 := t0, t1 := t1, t2 := t2, t3 := t3, t4 := t4, bankX := bankX, bankY := bankY, mem := mem,
      busAnswers := bus, ports := ports, callLog := log, cost := cost, freeCount := freeCount, cfg := cfg } :=
  ⟨fun r _ => by cases r <;> rfl, fun x _ => by cases x <;> rfl, ⟨rfl, rfl⟩, ⟨rfl, rfl⟩⟩

/-- A replacement of fields that are neither registers nor memory keeps registers, F, PC and memory. -/
theorem coreKept_update {s : State} {halted afterEi : Bool} {residual : Nat} {pending mask line : BitVec 14}
    {t0 t1 t2 t3 : Timer8} {t4 : Timer16} {bankX bankY : BitVec 4} {bus : List Byte} {ports : Vector PortWire 9}
    {log : List CallEvent} :
    CoreKept s { s with
      halted := halted, afterEi := afterEi, residual := residual, pending := pending, mask := mask, line := line,
      t0 := t0, t1 := t1, t2 := t2, t3 := t3, t4 := t4, bankX := bankX, bankY := bankY, busAnswers := bus,
      ports := ports, callLog := log } :=
  ⟨sameRegs_update, rfl, rfl, rfl⟩

/-- A replacement of registers, PC or memory keeps the system. -/
theorem sameSystem_update {s : State} {g0 g1 : GenBank} {gsel asel : Bool} {a0 a1 ix iy sp pc : Word} {mem : Memory}
    {cost freeCount : Nat} :
    SameSystem s { s with
      gbank0 := g0, gbank1 := g1, gsel := gsel, afbank0 := a0, afbank1 := a1, asel := asel, ix := ix, iy := iy, sp := sp,
      pc := pc, mem := mem, cost := cost, freeCount := freeCount } :=
  ⟨⟨rfl, rfl, rfl⟩, ⟨rfl, rfl, rfl⟩, ⟨rfl, rfl, rfl, rfl, rfl⟩, ⟨rfl, rfl⟩, ⟨rfl, rfl, rfl⟩, rfl⟩

/-- A read through the router keeps registers, F, PC and memory. -/
theorem read8_coreKept (a : Addr) (s : State) : CoreKept s (read8 a s).2 := by
  obtain ⟨b, p, l, h⟩ := read8_state a s
  rw [h]
  exact coreKept_update

/-- A write of a register of the window keeps registers, F, PC and memory. -/
theorem ioWrite_coreKept (r : IoReg) (v : Byte) (s : State) : CoreKept s (ioWrite r v s) := by
  obtain ⟨q, k, t0, t1, t2, t3, t4, x, y, b, p, l, h⟩ := ioWrite_state r v s
  rw [h]
  exact coreKept_update

/-! ### The router at a claimed address, and at one of each kind of the adapter (20 R62) -/

section Router

variable {a : Addr} {s : State}

theorem read8_claimed {r : IoReg} (h : claimed a = some r) : read8 a s = ioRead r s := by simp only [read8, h]

theorem write8_claimed {r : IoReg} (h : claimed a = some r) (v : Byte) : write8 a v s = ioWrite r v s := by
  simp only [write8, h]

/-- A read of a device is one call, which answers the next listed byte; past the list its answer is free. -/
theorem read8_device (ha : claimed a = none) (hk : s.memKind a = .device) :
    ∃ v rest, read8 a s = (v, s.busCall rest (.memRead a v)) ∧
      (∀ w ws, s.busAnswers = w :: ws → v = w ∧ rest = ws) ∧ (s.busAnswers = [] → rest = []) := by
  simp only [read8, ha, memRead8, hk]
  cases s.busAnswers with
  | nil => exact ⟨_, _, rfl, by simp, fun _ => rfl⟩
  | cons w ws => exact ⟨_, _, rfl, by simp, by simp⟩

/-- A write of a device is one call. -/
theorem write8_device (ha : claimed a = none) (hk : s.memKind a = .device) (v : Byte) :
    write8 a v s = s.busCall s.busAnswers (.memWrite a v) := by
  simp only [write8, ha, memWrite8, hk]

theorem write8_readOnly (ha : claimed a = none) (hk : s.memKind a = .readOnly) (v : Byte) : write8 a v s = s := by
  simp only [write8, ha, memWrite8, hk]

theorem write8_plain (ha : claimed a = none) (hk : s.memKind a = .plain) (v : Byte) :
    write8 a v s = s.setMem (s.mem.write a v) := by
  simp only [write8, ha, memWrite8, hk]

end Router

/-- The claimed addresses, as numbers (10 R41, 20 R63). -/
theorem claimed_isSome_iff (a : Addr) : (claimed a).isSome = true ↔
    a.toNat ∈ [0xFFC0, 0xFFC1, 0xFFC2, 0xFFC3, 0xFFC4, 0xFFC6, 0xFFC8, 0xFFCA, 0xFFCC, 0xFFCD, 0xFFD0, 0xFFD4, 0xFFD5,
      0xFFD6, 0xFFD7, 0xFFD8, 0xFFDA, 0xFFDB, 0xFFE0, 0xFFE1, 0xFFE4, 0xFFE6, 0xFFE7, 0xFFEC, 0xFFED] := by
  unfold claimed
  split <;> simp_all

/-- An address in no stretch of the map is plain. -/
theorem kindIn_of_outside {l : List MemRegion} {a : Nat} (h : ∀ r ∈ l, a < r.base ∨ r.base + r.size ≤ a) :
    kindIn l a = .plain := by
  induction l with
  | nil => rfl
  | cons r rest ih =>
    have outside : ¬(r.base ≤ a ∧ a < r.base + r.size) := by
      have := h r List.mem_cons_self
      omega
    rw [kindIn, if_neg outside]
    exact ih fun q hq => h q (List.mem_cons_of_mem r hq)

/-- The number of a word made of two bytes (20 R65). -/
theorem joinBytes_toNat (hi lo : Byte) : (joinBytes hi lo).toNat = lo.toNat + 256 * hi.toNat := by
  unfold joinBytes
  rw [BitVec.toNat_append, Nat.shiftLeft_eq, Nat.mul_comm, ← Nat.two_pow_add_eq_or_of_lt lo.isLt]
  omega

/-- The next address wraps inside its bank (20 R65). -/
theorem nextAddr_toNat (a : Addr) : (nextAddr a).toNat = a.toNat / 65536 * 65536 + (a.toNat + 1) % 65536 := by
  unfold nextAddr bankAddr
  rw [BitVec.toNat_append, Nat.shiftLeft_eq, Nat.mul_comm, ← Nat.two_pow_add_eq_or_of_lt (BitVec.isLt _),
    BitVec.toNat_add, BitVec.extractLsb'_toNat, BitVec.extractLsb'_toNat, Nat.shiftRight_eq_div_pow,
    Nat.shiftRight_eq_div_pow, show (1 : Word).toNat = 1 from rfl]
  have := a.isLt
  omega

end Sys2Proof.Machine

section Statements

open Sys2Proof Sys2Proof.Machine Sys2Proof.Rules

/-- Settles O23, clause by clause from the router's equation for each kind of address. -/
theorem accessRouter : Obligations.AccessRouter := by
  refine ⟨claimed_isSome_iff, fun a s h => kindIn_of_outside h, ?_, ?_, fun a v s ha hk => write8_readOnly ha hk v, ?_, ?_,
    fun a s => read8_mem a s, ?_⟩
  · intro a s ha hk
    exact read8_holdsByte (by simp [State.holdsByte, ha, hk])
  · intro a v s ha hk wf
    rw [write8_plain ha hk]
    exact ⟨fun b => Memory.read_write s.mem a b v, sameRegs_update, sameSystem_update, rfl, rfl⟩
  · intro a s ha hk
    obtain ⟨v, rest, hr, hcons, hnil⟩ := read8_device ha hk
    have kept := read8_coreKept a s
    rw [hr] at kept ⊢
    refine ⟨hcons, hnil, rfl, kept, .refl _, fun w => ?_⟩
    rw [write8_device ha hk]
    exact ⟨coreKept_update, .refl _⟩
  · intro a v s ha
    obtain ⟨r, hr⟩ := Option.ne_none_iff_exists'.mp ha
    obtain ⟨-, -, -, hmem⟩ := ioWrite_coreKept r v s
    rw [write8_claimed hr, hmem]
  · intro a s
    exact ⟨joinBytes_toNat _ _, rfl, fun w => rfl, nextAddr_toNat a⟩

end Statements
end

section
/-! SUPPORT. The ports, and the control registers at their addresses (spec 10 R41 to R51, 20 R76, 60 R341). -/

namespace Sys2Proof.Machine

open Sys2Proof.Rules

/-! ### Ports -/

section Ports

variable {n : Fin 9} {s : State}

theorem readPort_unconnected (h : s.ports[n] = .unconnected) : readPort n s = (s.cfg.portDefault, s) := by
  simp only [readPort, h]

theorem writePort_unconnected (h : s.ports[n] = .unconnected) (v : Byte) : writePort n v s = s := by
  simp only [writePort, h]

/-- A connected port answers its next byte. -/
theorem readPort_cons {v : Byte} {vs : List Byte} (h : s.ports[n] = .connected (v :: vs)) :
    readPort n s = (v, s.portCall n (.connected vs) (.portRead n v)) := by
  simp only [readPort, h]

/-- Past the listed bytes the answer is free. -/
theorem readPort_nil (h : s.ports[n] = .connected []) :
    ∃ v, readPort n s = (v, s.portCall n (.connected []) (.portRead n v)) := by
  simp only [readPort, h]
  exact ⟨_, rfl⟩

/-- A write to a connected port is one call, which leaves the coming answers of every port. -/
theorem writePort_connected {vs : List Byte} (h : s.ports[n] = .connected vs) (v : Byte) :
    writePort n v s = { s with callLog := .portWrite n v :: s.callLog } := by
  simp only [writePort, h, State.portCall]
  congr 1
  exact (congrArg (s.ports.set n.val) h.symm).trans (Vector.set_getElem_self n.isLt)

/-- A callback leaves the new wire at its port. -/
theorem portCall_ports_self (w : PortWire) (e : CallEvent) : (s.portCall n w e).ports[n] = w :=
  Vector.getElem_set_self n.isLt

/-- A callback changes the wire of its own port alone. -/
theorem portCall_ports_of_ne {m : Fin 9} (h : m ≠ n) (w : PortWire) (e : CallEvent) :
    (s.portCall n w e).ports[m] = s.ports[m] :=
  Vector.getElem_set_ne n.isLt m.isLt fun hnm => h (Fin.ext hnm.symm)

variable (n s)

/-- A port read changes what stands behind the port and the calls made. -/
theorem readPort_eq : ∃ p l, (readPort n s).2 = { s with ports := p, callLog := l } := by
  unfold readPort
  split <;> exact ⟨_, _, rfl⟩

/-- A port write changes the calls made. -/
theorem writePort_eq (v : Byte) : ∃ l, writePort n v s = { s with callLog := l } := by
  cases h : s.ports[n] with
  | unconnected => exact ⟨s.callLog, writePort_unconnected h v⟩
  | connected vs => exact ⟨_, writePort_connected h v⟩

variable {n} in
/-- A port read leaves the coming answers of every other port. -/
theorem readPort_ports_of_ne {m : Fin 9} (h : m ≠ n) : (readPort n s).2.ports[m] = s.ports[m] := by
  unfold readPort
  split
  · rfl
  · exact portCall_ports_of_ne h _ _
  · exact portCall_ports_of_ne h _ _

end Ports

/-! ### Starting and stopping (60 R341) -/

/-- A bit of TRUN on an 8-bit timer: a start reloads and clears the prescaler, anything else only records the bit. -/
theorem startStop8_eq (v : Bool) (t : Timer8) : startStop8 v t =
    if v = true ∧ t.run = false then
      { t with count := if t.mode.toNat = 2 then 0 else t.reload, presc := 0, run := true }
    else { t with run := v } := by
  have mode : t.mode = 2 ↔ t.mode.toNat = 2 := BitVec.toNat_inj.symm
  simp only [startStop8, Bool.and_eq_true, Bool.not_eq_true', mode]

/-- A bit of TRUN on timer 4. -/
theorem startStop16_eq (v : Bool) (t : Timer16) : startStop16 v t =
    if v = true ∧ t.run = false then
      { t with count := if t.mode.toNat = 2 then 0 else t.reload, presc := 0, run := true }
    else { t with run := v } := by
  have mode : t.mode = 2 ↔ t.mode.toNat = 2 := BitVec.toNat_inj.symm
  simp only [startStop16, Bool.and_eq_true, Bool.not_eq_true', mode]

/-- A write of TRUN is its bit on every 8-bit timer. -/
theorem writeTrun_timer8 (v : Byte) (s : State) (i : Fin 4) :
    (writeTrun v s).timer8 i = startStop8 (v.getLsbD i.val) (s.timer8 i) := by
  match i with
  | 0 | 1 | 2 | 3 => rfl

/-! ### Bits read -/

/-- The five run bits of TRUN (R44). -/
theorem trun_bits (f : Fin 4 → Bool) (b : Bool) :
    let v : Byte := 0#3 ++ BitVec.ofBool b ++ BitVec.ofBool (f 3) ++ BitVec.ofBool (f 2) ++ BitVec.ofBool (f 1) ++
      BitVec.ofBool (f 0)
    (∀ i : Fin 4, v.getLsbD i.val = f i) ∧ v.getLsbD 4 = b ∧ v.extractLsb' 5 3 = 0 := by
  have bits : ∀ b c d e g : Bool,
      let v : Byte := 0#3 ++ BitVec.ofBool b ++ BitVec.ofBool c ++ BitVec.ofBool d ++ BitVec.ofBool e ++ BitVec.ofBool g
      v.getLsbD 0 = g ∧ v.getLsbD 1 = e ∧ v.getLsbD 2 = d ∧ v.getLsbD 3 = c ∧ v.getLsbD 4 = b ∧ v.extractLsb' 5 3 = 0 := by
    decide
  obtain ⟨h0, h1, h2, h3, h4, hr⟩ := bits b (f 3) (f 2) (f 1) (f 0)
  refine ⟨fun i => ?_, h4, hr⟩
  match i with
  | 0 => exact h0
  | 1 => exact h1
  | 2 => exact h2
  | 3 => exact h3

/-- The fields of T4MOD (R45). -/
theorem t4mod_fields (mode : BitVec 2) (clk : BitVec 3) :
    let v : Byte := 0#2 ++ mode ++ 0#1 ++ clk
    v.extractLsb' 0 3 = clk ∧ v.extractLsb' 4 2 = mode ∧ v.getLsbD 3 = false ∧ v.extractLsb' 6 2 = 0 := by
  revert mode clk
  decide

/-- The clock codes of TCLK and the modes of TMOD by timer (R42, R43). -/
theorem ioRead_fields (s : State) (i : Fin 4) :
    (ioRead .tclk s).1.extractLsb' (2 * i.val) 2 = (s.timer8 i).clk ∧
      (ioRead .tmod s).1.extractLsb' (2 * i.val) 2 = (s.timer8 i).mode :=
  ⟨extractLsb'_fields (fun j => (s.timer8 j).clk) i, extractLsb'_fields (fun j => (s.timer8 j).mode) i⟩

/-- IRFL shows the requests of sources 0 to 7 (R48). -/
theorem ioRead_irfl_getLsbD (s : State) {j : Nat} (hj : j < 8) : (ioRead .irfl s).1.getLsbD j =
    if j = 0 then false else if j = 3 then s.line.getLsbD 3 else s.pending.getLsbD j := by
  change (s.req.extractLsb' 0 8).getLsbD j = _
  rw [BitVec.getLsbD_extractLsb', Nat.zero_add, req_getLsbD]
  by_cases h0 : j = 0 <;> by_cases h3 : j = 3 <;> simp [hj, h0, h3]

/-- IRFH shows the requests of sources 8 to 13 (R48). -/
theorem ioRead_irfh_getLsbD (s : State) {j : Nat} (hj : j < 8) : (ioRead .irfh s).1.getLsbD j =
    if j < 6 then s.pending.getLsbD (8 + j) else false := by
  change (0#2 ++ s.req.extractLsb' 8 6).getLsbD j = _
  rw [BitVec.getLsbD_append, BitVec.getLsbD_extractLsb', req_getLsbD, if_neg (by omega : ¬8 + j = 3)]
  by_cases h6 : j < 6 <;> simp [h6]

/-- INTEL shows the masks of sources 3 to 7 (R47). -/
theorem ioRead_intel_getLsbD (s : State) {j : Nat} (hj : j < 8) : (ioRead .intel s).1.getLsbD j =
    if 3 ≤ j then s.mask.getLsbD j else false := by
  change (s.mask.extractLsb' 3 5 ++ 0#3).getLsbD j = _
  rw [BitVec.getLsbD_append, BitVec.getLsbD_extractLsb']
  by_cases h3 : 3 ≤ j
  · simp [h3, show ¬j < 3 by omega, show j - 3 < 5 by omega]
  · simp [h3, show j < 3 by omega]

/-- INTEH shows the masks of sources 8 to 13 (R47). -/
theorem ioRead_inteh_getLsbD (s : State) (j : Nat) : (ioRead .inteh s).1.getLsbD j =
    if j < 6 then s.mask.getLsbD (8 + j) else false := by
  change (0#2 ++ s.mask.extractLsb' 8 6).getLsbD j = _
  rw [BitVec.getLsbD_append, BitVec.getLsbD_extractLsb']
  by_cases h6 : j < 6 <;> simp [h6]

/-- BX and BY stand in the low half of their byte (R49). -/
theorem zero_append_bank (b : BitVec 4) : (0#4 ++ b : Byte) = b.setWidth 8 := by
  revert b
  decide

/-- The four reload registers stand at adjacent addresses (R41). -/
theorem claimed_treg (i : Fin 4) : claimed (0xFFD4 + BitVec.ofNat 20 i.val) = some (.treg i) := by
  revert i
  decide

end Sys2Proof.Machine

section Statements

open Sys2Proof Sys2Proof.Machine Sys2Proof.Rules

/-- Settles O1: both halves hold by the definition of the two states. -/
theorem resetState : Obligations.ResetState := by
  refine ⟨⟨rfl, rfl, rfl, rfl, rfl, rfl, rfl, rfl, rfl, rfl, rfl, rfl, rfl, rfl, rfl, rfl, rfl, rfl, fun j => ?_, rfl, ?_⟩,
    fun s => ⟨rfl, rfl, rfl, rfl, rfl, sameRegs_update, rfl, rfl, sameSystem_update⟩⟩
  · match j with
    | 0 | 1 | 2 | 3 => rfl
  · decide

/-- Settles O2. -/
theorem resetMeetsInvariant : Obligations.ResetMeetsInvariant := by
  unfold Obligations.ResetMeetsInvariant
  decide

/-- Settles O24, register by register. -/
theorem controlRegisterReads : Obligations.ControlRegisterReads := by
  intro s
  refine ⟨fun i => read8_claimed (claimed_treg i), rfl, rfl, ⟨rfl, rfl, ioRead_fields s⟩, ⟨rfl, ?_⟩,
    ⟨rfl, t4mod_fields _ _⟩, ⟨rfl, fun j hj => ioRead_irfl_getLsbD s hj⟩, ⟨rfl, fun j hj => ioRead_irfh_getLsbD s hj⟩,
    ⟨rfl, fun j hj => ioRead_intel_getLsbD s hj⟩, ⟨rfl, fun j _ => ioRead_inteh_getLsbD s j⟩, ?_, ?_⟩
  · exact trun_bits (fun i => (s.timer8 i).run) s.t4.run
  · exact congrArg (·, s) (zero_append_bank s.bankX)
  · exact congrArg (·, s) (zero_append_bank s.bankY)

/-- Settles O26: one equation per wiring. -/
theorem portAccess : Obligations.PortAccess := by
  intro n s
  refine ⟨fun h => ⟨readPort_unconnected h, writePort_unconnected h⟩, fun v vs h => ?_, fun h => ?_,
    fun vs h v => ?_, ?_, fun v => ?_, fun m hm => readPort_ports_of_ne s hm, fun a ha => ⟨read8_claimed ha, write8_claimed ha⟩, by decide⟩
  · rw [readPort_cons h]
    exact ⟨rfl, portCall_ports_self _ _, rfl⟩
  · obtain ⟨v, hv⟩ := readPort_nil h
    rw [hv]
    exact ⟨portCall_ports_self _ _, rfl⟩
  · rw [writePort_connected h]
    exact ⟨rfl, rfl⟩
  · obtain ⟨p, l, h⟩ := readPort_eq n s
    rw [h]
    exact ⟨coreKept_update, .refl _⟩
  · obtain ⟨l, h⟩ := writePort_eq n s v
    rw [h]
    exact ⟨coreKept_update, .refl _⟩

end Statements
end

section
/-! SUPPORT. What a write of each control register leaves of each timer (spec 10 R42 to R45, 60 R341). -/

namespace Sys2Proof.Machine

/-- TCLK sets the clock code of every 8-bit timer (R42). -/
theorem ioWrite_tclk_timer8 (v : Byte) (s : State) (i : Fin 4) :
    (ioWrite .tclk v s).timer8 i = { s.timer8 i with clk := v.extractLsb' (2 * i.val) 2 } := by
  match i with
  | 0 | 1 | 2 | 3 => rfl

/-- TMOD sets the mode of every 8-bit timer (R43). -/
theorem ioWrite_tmod_timer8 (v : Byte) (s : State) (i : Fin 4) :
    (ioWrite .tmod v s).timer8 i = { s.timer8 i with mode := v.extractLsb' (2 * i.val) 2 } := by
  match i with
  | 0 | 1 | 2 | 3 => rfl

end Sys2Proof.Machine

section Statements

open Sys2Proof Sys2Proof.Machine Sys2Proof.Rules

/-- Settles O25: the effect of each register, then its frame, from the register's equation at its address. -/
theorem controlRegisterWrites : Obligations.ControlRegisterWrites := by
  intro s v
  have frame {a : Addr} {r : IoReg} (ha : claimed a = some r) : CoreKept s (write8 a v s) := by
    rw [write8_claimed ha]
    exact ioWrite_coreKept r v s
  have treg (i : Fin 4) := write8_claimed (s := s) (claimed_treg i) v
  refine ⟨fun i => ?_, rfl, rfl, fun i => ⟨ioWrite_tclk_timer8 v s i, ioWrite_tmod_timer8 v s i⟩, rfl, fun i => ?_, ?_,
    ioWrite_irfl_pending v s, ioWrite_irfh_pending v s, ioWrite_intel_mask v s, ioWrite_inteh_mask v s, ⟨rfl, rfl⟩,
    fun i => ⟨frame (claimed_treg i), ?_⟩, ?_, ?_, ⟨frame rfl, .refl _⟩, ?_, ?_, ⟨frame rfl, .refl _⟩,
    ⟨frame rfl, .refl _⟩⟩
  · rw [treg i]
    exact ⟨by simp [ioWrite], fun j hj => by simp [ioWrite, hj], rfl, rfl⟩
  · exact (writeTrun_timer8 v s i).trans (startStop8_eq _ _)
  · exact startStop16_eq _ _
  · rw [treg i]
    exact .refl _
  · intro a ha
    simp only [List.mem_cons, List.not_mem_nil, or_false] at ha
    obtain rfl | rfl := ha
    · refine ⟨⟨frame rfl, .refl _⟩, fun i => ?_⟩
      have clocks : (write8 0xFFD8 v s).timer8 i = _ := ioWrite_tclk_timer8 v s i
      rw [clocks]
    · refine ⟨⟨frame rfl, .refl _⟩, fun i => ?_⟩
      have modes : (write8 0xFFDA v s).timer8 i = _ := ioWrite_tmod_timer8 v s i
      rw [modes]
  · intro a ha
    simp only [List.mem_cons, List.not_mem_nil, or_false] at ha
    obtain rfl | rfl | rfl := ha <;> exact ⟨frame rfl, .refl _⟩
  · intro a ha
    simp only [List.mem_cons, List.not_mem_nil, or_false] at ha
    obtain rfl | rfl := ha <;> exact ⟨frame rfl, .refl _⟩
  · intro a ha
    simp only [List.mem_cons, List.not_mem_nil, or_false] at ha
    obtain rfl | rfl := ha <;> exact ⟨frame rfl, .refl _⟩

end Statements
end

section
/-! SUPPORT. The host's reads and writes (spec 10 R46, 60 R366): what a name reads back, what a write leaves, and what the
reads of all names determine. -/

namespace Sys2Proof.Machine

open Sys2Proof.Rules

/-! ### Words as the host sees them -/

/-- The low `k` bits of a word, zero-extended. -/
theorem setWidth_setWidth_word (w : Word) {k : Nat} (hk : k ≤ 16) :
    (w.setWidth k).setWidth 16 = w &&& BitVec.ofNat 16 (2 ^ k - 1) := by
  apply BitVec.eq_of_toNat_eq
  have bound : 2 ^ k ≤ 2 ^ 16 := Nat.pow_le_pow_right (by omega) hk
  have pos : 0 < 2 ^ k := Nat.two_pow_pos k
  have small : w.toNat % 2 ^ k < 2 ^ k := Nat.mod_lt _ pos
  rw [BitVec.toNat_setWidth, BitVec.toNat_setWidth, BitVec.toNat_and, BitVec.toNat_ofNat,
    Nat.mod_eq_of_lt (by omega : 2 ^ k - 1 < 2 ^ 16), Nat.and_two_pow_sub_one_eq_mod, Nat.mod_eq_of_lt (by omega)]

theorem loByte_setWidth (w : Word) : (loByte w).setWidth 16 = w &&& 0xFF := by
  have low : loByte w = w.setWidth 8 := BitVec.eq_of_toNat_eq (by simp [loByte])
  rw [low]
  exact setWidth_setWidth_word w (by omega)

/-- The bits of a 14-bit latch that exist. -/
theorem latch_setWidth (w : Word) (m : BitVec 14) : (w.setWidth 14 &&& m).setWidth 16 = w &&& m.setWidth 16 := by
  have cut : (0x3FFF : Word) &&& m.setWidth 16 = m.setWidth 16 := by
    rw [BitVec.and_comm]
    exact (setWidth_setWidth_word (m.setWidth 16) (k := 14) (by omega)).symm.trans (by simp)
  rw [BitVec.setWidth_and, setWidth_setWidth_word w (by omega), BitVec.and_assoc]
  exact congrArg (w &&& ·) cut

theorem bitWord_getLsbD (w : Word) : bitWord (w.getLsbD 0) = w &&& 1 :=
  BitVec.and_one_eq_setWidth_ofBool_getLsbD.symm

/-- A bit is known from its word. -/
theorem bitWord_inj {a b : Bool} (h : bitWord a = bitWord b) : a = b := by
  revert a b
  decide

/-- A field of at most 16 bits is known from its word. -/
theorem setWidth_word_inj {k : Nat} (hk : k ≤ 16) {a b : BitVec k} (h : a.setWidth 16 = b.setWidth 16) : a = b := by
  have := congrArg (BitVec.setWidth k) h
  simpa [BitVec.setWidth_setWidth_of_le _ hk] using this

/-! ### A part of a timer -/

theorem Timer8.get_set (u : Timer8) (k : TimerField) (w : Word) : (u.set k w).get k = w &&& timerBits 3 0xFF k := by
  cases k with
  | mode | clk => exact setWidth_setWidth_word w (by omega)
  | run => exact bitWord_getLsbD w
  | reload | count => exact loByte_setWidth w
  | presc => exact (BitVec.setWidth_setWidth (by omega)).trans (loByte_setWidth w)

theorem Timer16.get_set (u : Timer16) (k : TimerField) (w : Word) : (u.set k w).get k = w &&& timerBits 7 0xFFFF k := by
  cases k with
  | mode | clk => exact setWidth_setWidth_word w (by omega)
  | run => exact bitWord_getLsbD w
  | reload | count => exact BitVec.and_allOnes.symm
  | presc => exact (BitVec.setWidth_setWidth (by omega)).trans (loByte_setWidth w)

/-- An 8-bit timer is known from its parts. -/
theorem Timer8.eq_of_get {u v : Timer8} (h : ∀ k, u.get k = v.get k) : u = v := by
  have hmode := setWidth_word_inj (by omega) (h .mode)
  have hclk := setWidth_word_inj (by omega) (h .clk)
  have hrun := bitWord_inj (h .run)
  have hreload := setWidth_word_inj (by omega) (h .reload)
  have hcount := setWidth_word_inj (by omega) (h .count)
  have hpresc := setWidth_word_inj (by omega) (h .presc)
  cases u
  cases v
  simp_all

/-- Timer 4 is known from its parts. -/
theorem Timer16.eq_of_get {u v : Timer16} (h : ∀ k, u.get k = v.get k) : u = v := by
  have hmode := setWidth_word_inj (by omega) (h .mode)
  have hclk := setWidth_word_inj (by omega) (h .clk)
  have hrun := bitWord_inj (h .run)
  have hreload : u.reload = v.reload := h .reload
  have hcount : u.count = v.count := h .count
  have hpresc := setWidth_word_inj (by omega) (h .presc)
  cases u
  cases v
  simp_all

/-! ### Reading back -/

/-- The host reads back what it writes, in the bits that exist. -/
theorem hostRead_hostWrite (s : State) (r : HostReg) (w : Word) (hr : ∀ c, r ≠ .control c) :
    hostRead (hostWrite r w s) r = w &&& bitsOf r := by
  have whole : w = w &&& 0xFFFF := BitVec.and_allOnes.symm
  cases r with
  | half q =>
    simp only [hostRead, hostWrite, State.set8_get8, if_true]
    exact loByte_setWidth w
  | pair g =>
    simp only [hostRead, hostWrite, State.set16_get16, if_true]
    exact whole
  | f =>
    simp only [hostRead, hostWrite, State.setF_f]
    exact loByte_setWidth w
  | af =>
    simp only [hostRead, hostWrite, State.setAf_af]
    exact whole
  | pc => exact whole
  | bcShadow | deShadow | hlShadow =>
    simp only [hostRead, hostWrite, State.setGenShadow_genShadow]
    exact whole
  | afShadow =>
    simp only [hostRead, hostWrite, State.setAfShadow_afShadow]
    exact whole
  | gsel | asel | halted | afterEi => exact bitWord_getLsbD w
  | pending | mask | line => exact latch_setWidth w _
  | timer8 i k =>
    simp only [hostRead, hostWrite, State.setTimer8_timer8, if_true]
    exact Timer8.get_set _ k w
  | timer4 k => exact Timer16.get_set _ k w
  | control c => exact absurd rfl (hr c)

/-- A host write never changes memory. -/
theorem hostWrite_mem (s : State) (r : HostReg) (w : Word) : (hostWrite r w s).mem = s.mem := by
  cases r with
  | half q => exact State.set8_mem s q _
  | pair g => exact State.set16_mem s g w
  | control c =>
    obtain ⟨-, -, -, hmem⟩ := ioWrite_coreKept c.ioReg (loByte w) s
    exact hmem
  | _ => rfl

/-! ### Frames of the register writes -/

section RegisterWrites

variable (s : State)

theorem set8_sameRegs (r : Reg8) (v : Byte) : SameRegs [r] [] s (s.set8 r v) where
  halves q hq := by
    rw [State.set8_get8, if_neg fun h => hq (List.mem_singleton.mpr h)]
  wide x _ := State.set8_get16 s x r v
  selectors := ⟨State.set8_gsel s r v, State.set8_asel s r v⟩
  shadows := ⟨State.set8_genShadow s r v, State.set8_afShadow s r v⟩

theorem set8_sameSystem (r : Reg8) (v : Byte) : SameSystem s (s.set8 r v) := by
  cases r <;> exact sameSystem_update

theorem set16_sameRegs (g : Reg16) (w : Word) : SameRegs (halvesOf g) (wideOf g) s (s.set16 g w) where
  halves r hr := by
    rw [State.set16_get8]
    split
    case h_7 => rfl
    all_goals exact absurd (by decide) hr
  wide x hx := by
    rw [State.set16_get16, if_neg]
    rintro rfl
    cases x <;> exact hx (by decide)
  selectors := ⟨State.set16_gsel s g w, State.set16_asel s g w⟩
  shadows := ⟨State.set16_genShadow s g w, State.set16_afShadow s g w⟩

theorem set16_sameSystem (g : Reg16) (w : Word) : SameSystem s (s.set16 g w) := by
  cases g <;> exact sameSystem_update

theorem setF_sameRegs (f : Byte) : SameRegs [] [] s (s.setF f) where
  halves r _ := State.setF_get8 s f r
  wide x _ := State.setF_get16 s f (RegX.reg16 x)
  selectors := ⟨rfl, rfl⟩
  shadows := ⟨rfl, State.setF_afShadow s f⟩

theorem setAf_sameRegs (w : Word) : SameRegs [.a] [] s (s.setAf w) where
  halves r hr := by
    cases r with
    | a => exact absurd List.mem_cons_self hr
    | b | c | d | e | h | l => rfl
  wide x _ := by cases x <;> rfl
  selectors := ⟨rfl, rfl⟩
  shadows := ⟨rfl, State.setAf_afShadow s w⟩

end RegisterWrites

end Sys2Proof.Machine
end

section
/-! SUPPORT. Frames of the host's writes, and the completeness of the host's view (spec 10 R46, 60 R366). -/

namespace Sys2Proof.Machine

open Sys2Proof.Rules

/-! ### Frames -/

/-- What a write of the part `k` of an 8-bit timer leaves of every other part of every timer of 0..3. -/
theorem hostRead_hostWrite_timer8 (s : State) {i i' : Fin 4} {k k' : TimerField} (w : Word) (h : i' ≠ i ∨ k' ≠ k) :
    hostRead (hostWrite (.timer8 i k) w s) (.timer8 i' k') = hostRead s (.timer8 i' k') := by
  simp only [hostRead, hostWrite, State.setTimer8_timer8]
  by_cases hi : i' = i
  · subst hi
    have hk : k' ≠ k := h.resolve_left (absurd rfl)
    rw [if_pos rfl, Timer8.get_set_of_ne _ w hk]
  · rw [if_neg hi]

/-- One bit of a byte, by its number. -/
theorem getLsbD_one_shiftLeft (k : Fin 8) (j : Nat) (hj : j < 8) : (1#8 <<< k.val).getLsbD j = decide (j = k.val) := by
  revert k j
  decide

/-- A write of one bit of F. -/
theorem hostWriteFlag_getLsbD (s : State) (k : Fin 8) (on : Bool) (j : Nat) (hj : j < 8) :
    (hostWriteFlag k on s).f.getLsbD j = if j = k.val then on else s.f.getLsbD j := by
  have bit := getLsbD_one_shiftLeft k j hj
  unfold hostWriteFlag
  rw [State.setF_f]
  cases on with
  | true =>
    rw [if_pos rfl, BitVec.getLsbD_or, bit]
    by_cases h : j = k.val <;> simp [h]
  | false =>
    rw [if_neg Bool.false_ne_true, BitVec.getLsbD_and, BitVec.getLsbD_not, bit]
    by_cases h : j = k.val <;> simp [h, hj]

/-! ### Control registers by address -/

/-- Every control register has an address of the window (R41). -/
theorem exists_claimed (c : ControlReg) : ∃ a, claimed a = some c.ioReg := by
  cases c with
  | irfl => exact ⟨0xFFC2, rfl⟩
  | irfh => exact ⟨0xFFC3, rfl⟩
  | treg i => exact ⟨_, claimed_treg i⟩
  | tclk => exact ⟨0xFFD8, rfl⟩
  | tmod => exact ⟨0xFFDA, rfl⟩
  | trun => exact ⟨0xFFDB, rfl⟩
  | treg4l => exact ⟨0xFFE0, rfl⟩
  | treg4h => exact ⟨0xFFE1, rfl⟩
  | t4mod => exact ⟨0xFFE4, rfl⟩
  | intel => exact ⟨0xFFE6, rfl⟩
  | inteh => exact ⟨0xFFE7, rfl⟩
  | bx => exact ⟨0xFFEC, rfl⟩
  | bankY => exact ⟨0xFFED, rfl⟩

/-! ### What the host's reads determine -/

section Completeness

variable {s t : State}

/-- Both general banks, from the active one, the shadow and the selector. -/
theorem gbanks_eq (hsel : s.gsel = t.gsel) (hgen : s.gen = t.gen) (hshadow : s.genShadow = t.genShadow) :
    s.gbank0 = t.gbank0 ∧ s.gbank1 = t.gbank1 := by
  unfold State.gen State.genShadow at *
  rw [← hsel] at hgen hshadow
  revert hgen hshadow
  cases s.gsel with
  | true => exact fun hgen hshadow => ⟨hshadow, hgen⟩
  | false => exact fun hgen hshadow => ⟨hgen, hshadow⟩

/-- Both AF banks, from AF, AF' and the selector. -/
theorem afbanks_eq (hsel : s.asel = t.asel) (haf : s.af = t.af) (hshadow : s.afShadow = t.afShadow) :
    s.afbank0 = t.afbank0 ∧ s.afbank1 = t.afbank1 := by
  unfold State.af State.afShadow at *
  rw [← hsel] at haf hshadow
  revert haf hshadow
  cases s.asel with
  | true => exact fun haf hshadow => ⟨hshadow, haf⟩
  | false => exact fun haf hshadow => ⟨haf, hshadow⟩

/-- A general bank is known from its three pairs. -/
theorem genBank_eq {a b : GenBank} (hbc : a.bc = b.bc) (hde : a.de = b.de) (hhl : a.hl = b.hl) : a = b := by
  cases a
  cases b
  simp_all

/-- A bank register is known from what a load of it answers. -/
theorem bank_eq {a b : BitVec 4} (h : (0#4 ++ a : Byte).setWidth 16 = (0#4 ++ b : Byte).setWidth 16) : a = b := by
  revert a b
  decide

/-- The host's reads and `residual` determine the core. -/
theorem eq_of_hostRead_eq (h : ∀ r, hostRead s r = hostRead t r) (hres : s.residual = t.residual) :
    { s with mem := t.mem, busAnswers := t.busAnswers, ports := t.ports, callLog := t.callLog, cost := t.cost,
             freeCount := t.freeCount, cfg := t.cfg } = t := by
  have hgsel := bitWord_inj (h .gsel)
  have hasel := bitWord_inj (h .asel)
  obtain ⟨hg0, hg1⟩ := gbanks_eq hgsel (genBank_eq (h (.pair .bc)) (h (.pair .de)) (h (.pair .hl)))
    (genBank_eq (h .bcShadow) (h .deShadow) (h .hlShadow))
  obtain ⟨ha0, ha1⟩ := afbanks_eq hasel (h .af) (h .afShadow)
  have hix := h (.pair .ix)
  have hiy := h (.pair .iy)
  have hsp := h (.pair .sp)
  have hpc := h .pc
  have hhalted := bitWord_inj (h .halted)
  have hafterEi := bitWord_inj (h .afterEi)
  have hpending := setWidth_word_inj (by omega) (h .pending)
  have hmask := setWidth_word_inj (by omega) (h .mask)
  have hline := setWidth_word_inj (by omega) (h .line)
  have htimer (i : Fin 4) : s.timer8 i = t.timer8 i := Timer8.eq_of_get fun k => h (.timer8 i k)
  have ht4 := Timer16.eq_of_get fun k => h (.timer4 k)
  have hx := bank_eq (h (.control .bx))
  have hy := bank_eq (h (.control .bankY))
  cases t
  rw [State.mk.injEq]
  exact ⟨hg0, hg1, hgsel, ha0, ha1, hasel, hix, hiy, hsp, hpc, hhalted, hafterEi, hres, hpending, hmask, hline,
    htimer 0, htimer 1, htimer 2, htimer 3, ht4, hx, hy, rfl, rfl, rfl, rfl, rfl, rfl, rfl⟩

end Completeness

end Sys2Proof.Machine

section Statements

open Sys2Proof Sys2Proof.Machine Sys2Proof.Rules

/-- Settles O22: reading back, the frame of each name, and the completeness of the host's view. -/
theorem hostRegisterAccess : Obligations.HostRegisterAccess := by
  refine ⟨fun s r w hr => ⟨hostRead_hostWrite s r w hr, hostWrite_mem s r w⟩, fun s r w => ?_,
    fun n s => ⟨rfl, coreKept_update, .refl _⟩, fun s t h hres => eq_of_hostRead_eq h hres,
    fun c => ⟨exists_claimed c, fun a s w ha => ?_⟩, fun s k on => ?_, fun n s => rfl⟩
  · cases r with
    | half q => exact ⟨State.set8_f s q _, State.set8_pc s q _, set8_sameRegs s q _, set8_sameSystem s q _⟩
    | pair g => exact ⟨State.set16_f s g w, State.set16_pc s g w, set16_sameRegs s g w, set16_sameSystem s g w⟩
    | f => exact ⟨rfl, setF_sameRegs s _, sameSystem_update⟩
    | af => exact ⟨rfl, setAf_sameRegs s w, sameSystem_update⟩
    | pc => exact ⟨rfl, sameRegs_update, sameSystem_update⟩
    | gsel =>
      exact ⟨rfl, rfl, rfl, rfl, rfl, fun x => by cases x <;> rfl, absurd rfl, fun _ => rfl, sameSystem_update⟩
    | asel =>
      exact ⟨rfl, rfl, rfl, rfl, rfl, fun x => by cases x <;> rfl, fun _ => rfl, absurd rfl, sameSystem_update⟩
    | halted | afterEi | pending | mask | line => exact ⟨coreKept_update, .refl _⟩
    | timer8 i k => exact ⟨coreKept_update, .refl _, fun i' k' h => hostRead_hostWrite_timer8 s w h⟩
    | timer4 k => exact ⟨coreKept_update, .refl _, fun k' hk => Timer16.get_set_of_ne s.t4 w hk⟩
    | control c => exact ioWrite_coreKept c.ioReg (loByte w) s
    | bcShadow | deShadow | hlShadow =>
      refine ⟨State.setGenShadow_f s _, rfl, State.setGenShadow_get8 s _, sameSystem_update,
        fun x => State.setGenShadow_get16 s _ _, rfl, rfl, ?_⟩
      simp [hostWrite]
    | afShadow =>
      refine ⟨State.setAfShadow_f s _, rfl, State.setAfShadow_get8 s _, sameSystem_update,
        fun x => State.setAfShadow_get16 s _ _, rfl, rfl, ?_⟩
      simp [hostWrite]
  · rw [read8_claimed ha, write8_claimed ha]
    exact ⟨rfl, rfl⟩
  · exact ⟨hostWriteFlag_getLsbD s k on, setF_sameRegs s _, rfl, rfl, sameSystem_update⟩

end Statements
end

section
/-! SUPPORT. How frames compose, and the frames of a word access, of a write of a stack register, of a push and of a pop
(spec 20 R65, R72). -/

namespace Sys2Proof.Machine

/-! ### Frames compose -/

section Composition

variable {ex8 ex8' : List Reg8} {exX exX' : List RegX} {s io t u : State}

/-- One change after another leaves what both leave. -/
theorem SameRegs.trans (h : SameRegs ex8 exX s t) (k : SameRegs ex8' exX' t u) :
    SameRegs (ex8 ++ ex8') (exX ++ exX') s u where
  halves r hr := by
    obtain ⟨hr1, hr2⟩ := not_or.mp (List.mem_append.not.mp hr)
    exact (k.halves r hr2).trans (h.halves r hr1)
  wide x hx := by
    obtain ⟨hx1, hx2⟩ := not_or.mp (List.mem_append.not.mp hx)
    exact (k.wide x hx2).trans (h.wide x hx1)
  selectors := by simp only [k.selectors, h.selectors, and_self]
  shadows := by simp only [k.shadows, h.shadows, and_self]

theorem SameSystem.trans (h : SameSystem s t) (k : SameSystem t u) : SameSystem s u where
  context := by simp only [k.context, h.context, and_self]
  interrupts := by simp only [k.interrupts, h.interrupts, and_self]
  timers := by simp only [k.timers, h.timers, and_self]
  banks := by simp only [k.banks, h.banks, and_self]
  outside := by simp only [k.outside, h.outside, and_self]
  cfg := k.cfg.trans h.cfg

/-- The cost that ends a meaning is in no frame, nor is PC in this one. -/
theorem SameRegs.setCost (h : SameRegs ex8 exX s t) (n : Nat) : SameRegs ex8 exX s (t.setCost n) :=
  ⟨h.halves, h.wide, h.selectors, h.shadows⟩

theorem SameRegs.setPc (h : SameRegs ex8 exX s t) (w : Word) : SameRegs ex8 exX s (t.setPc w) :=
  ⟨h.halves, h.wide, h.selectors, h.shadows⟩

theorem SameSystem.setCost (h : SameSystem s t) (n : Nat) : SameSystem s (t.setCost n) :=
  ⟨h.context, h.interrupts, h.timers, h.banks, h.outside, h.cfg⟩

theorem SameSystem.setPc (h : SameSystem s t) (w : Word) : SameSystem s (t.setPc w) :=
  ⟨h.context, h.interrupts, h.timers, h.banks, h.outside, h.cfg⟩

theorem Frame.setCost (h : Frame ex8 exX s io t) (n : Nat) : Frame ex8 exX s io (t.setCost n) := by
  obtain ⟨regs, system, pc⟩ := h
  exact ⟨regs.setCost n, system.setCost n, pc⟩

/-- The end of a control transfer: the target in PC, then the cost. -/
theorem Frame.setPc_setCost (h : Frame ex8 exX s io t) (w : Word) (n : Nat) :
    FrameButPc ex8 exX s io ((t.setPc w).setCost n) := by
  obtain ⟨regs, system, -⟩ := h
  exact ⟨(regs.setPc w).setCost n, (system.setPc w).setCost n⟩

theorem Frame.refl (s : State) : Frame [] [] s s s := ⟨sameRegs_update, .refl s, rfl⟩

end Composition

/-! ### Word accesses and single registers -/

theorem read16_sameRegs (a : Addr) (s : State) : SameRegs [] [] s (read16 a s).2 := by
  obtain ⟨b, p, l, h⟩ := read16_state a s
  rw [h]
  exact sameRegs_update

theorem write16_sameRegs (a : Addr) (w : Word) (s : State) : SameRegs [] [] s (write16 a w s) := by
  obtain ⟨q, k, t0, t1, t2, t3, t4, x, y, m, b, p, l, h⟩ := write16_state a w s
  rw [h]
  exact sameRegs_update

theorem write16_frame (a : Addr) (w : Word) (s : State) : Frame [] [] s (write16 a w s) (write16 a w s) :=
  ⟨write16_sameRegs a w s, .refl _, write16_pc a w s⟩

theorem write16_storedWord (a : Addr) (w : Word) (s : State) : StoredWord a w s (write16 a w s) :=
  fun b => write16_read s a b w

theorem setSp_sameRegs (w : Word) (s : State) : SameRegs [] [.sp] s (s.setSp w) := set16_sameRegs s .sp w

/-- The 8-bit registers that a register of the `qq` field holds; F is none of them. -/
def halvesOfQ : RegQ → List Reg8
  | .bc => [.b, .c]
  | .de => [.d, .e]
  | .hl => [.h, .l]
  | .af => [.a]
  | _ => []

/-- IX or IY as a register of the `ix` field; none for the other registers of the `qq` field. -/
def wideOfQ : RegQ → List RegX
  | .ix => [.ix]
  | .iy => [.iy]
  | _ => []

theorem setQ_sameRegs (s : State) (q : RegQ) (w : Word) : SameRegs (halvesOfQ q) (wideOfQ q) s (s.setQ q w) := by
  cases q with
  | bc => exact set16_sameRegs s .bc w
  | de => exact set16_sameRegs s .de w
  | hl => exact set16_sameRegs s .hl w
  | ix => exact set16_sameRegs s .ix w
  | iy => exact set16_sameRegs s .iy w
  | af => exact setAf_sameRegs s w

theorem setQ_sameSystem (s : State) (q : RegQ) (w : Word) : SameSystem s (s.setQ q w) := by
  cases q <;> exact sameSystem_update

theorem State.setQ_getQ (s : State) (q : RegQ) (w : Word) : (s.setQ q w).getQ q = w := by
  cases q <;> simp [State.setQ, State.getQ]

theorem State.setQ_f (s : State) {q : RegQ} (hq : q ≠ .af) (w : Word) : (s.setQ q w).f = s.f := by
  cases q with
  | af => exact absurd rfl hq
  | bc | de | hl | ix | iy => rfl

/-! ### The stack: a push is a store, then SP; a pop is a read, then SP (R72) -/

theorem push16_eq (v : Word) (s : State) : push16 v s = (write16 (bank0 (s.sp - 2)) v s).setSp (s.sp - 2) :=
  write16_setSp _ _ _ _

theorem pop16_eq (s : State) :
    pop16 s = ((read16 (bank0 s.sp) s).1, (read16 (bank0 s.sp) s).2.setSp (s.sp + 2)) := by
  simp [pop16]

/-- A push leaves all but SP, and the system as its store leaves it. -/
theorem push16_frame (v : Word) (s : State) :
    Frame [] [.sp] s (write16 (bank0 (s.sp - 2)) v s) (push16 v s) := by
  rw [push16_eq]
  exact ⟨(write16_sameRegs _ v s).trans (setSp_sameRegs _ _), sameSystem_update, write16_pc _ v s⟩

theorem push16_storedWord (v : Word) (s : State) : StoredWord (bank0 (s.sp - 2)) v s (push16 v s) := by
  rw [push16_eq]
  exact write16_storedWord _ v s

/-- A pop leaves all but SP, and the system as its read leaves it. -/
theorem pop16_frame (s : State) : Frame [] [.sp] s (read16 (bank0 s.sp) s).2 (pop16 s).2 := by
  rw [pop16_eq]
  exact ⟨(read16_sameRegs _ s).trans (setSp_sameRegs _ _), sameSystem_update, read16_pc _ s⟩

end Sys2Proof.Machine
end

section
/-! SUPPORT. Addresses and conditions as the rules write them, in integers and codes: the address of every memory operand
(spec 30 R100 to R104), branch targets (44 R277, R278), conditions (44 R275). -/

namespace Sys2Proof.Machine

open Sys2Proof.Rules

/-! ### Displacements -/

theorem displaced_toNat (w : Word) (d : Int) : ((displaced w d).toNat : Int) = (w.toNat + d) % 65536 := by
  unfold displaced
  rw [BitVec.toNat_ofInt]
  omega

/-- A signed displacement is an addition of words (30 R103). -/
theorem displaced_eq_add (w : Word) (d : Int) : displaced w d = w + BitVec.ofInt 16 d := by
  unfold displaced
  rw [BitVec.ofInt_add, BitVec.ofInt_natCast, BitVec.ofNat_toNat, BitVec.setWidth_eq]

theorem add_sext16 (w : Word) (d : Byte) : w + sext16 d = displaced w d.toInt := (displaced_eq_add w d.toInt).symm

/-- The target of JRL and CALLR, and the value of LDAR (44 R278, 40 R142). -/
theorem rel16_eq_displaced (st : Word) (s : State) : rel16 st s = displaced s.pc (bias s + st.toInt) := by
  have base : (if s.cfg.rel16Minus1 then 0xFFFF else 0 : Word) = BitVec.ofInt 16 (bias s) := by
    unfold bias
    split <;> rfl
  rw [displaced_eq_add, BitVec.ofInt_add, BitVec.ofInt_toInt, ← base, ← BitVec.add_assoc]
  rfl

/-! ### Conditions -/

theorem cond_eq_condition (cc : Cond) (k : Flags) : k.cond cc = condition cc k := by
  have signs : (k.s == k.v) = !(k.s ^^ k.v) := by
    cases k.s <;> cases k.v <;> rfl
  cases cc <;> simp [condition, Flags.cond, Cond.code, signs]

theorem holds_eq_condition (cc : Cond) (s : State) : holds cc s = condition cc (flagsOf s) :=
  cond_eq_condition cc (flagsOf s)

/-! ### The address of a memory operand -/

theorem bankAddr_toNat (bank : BitVec 4) (w : Word) : (bankAddr bank w).toNat = w.toNat + 65536 * bank.toNat := by
  unfold bankAddr
  rw [BitVec.toNat_append, Nat.shiftLeft_eq, Nat.mul_comm, ← Nat.two_pow_add_eq_or_of_lt w.isLt]
  omega

/-- The bank stands above the effective address (20 R68). -/
theorem addr_toNat (m : Mem) (s : State) : (addr m s).toNat = (ea m s).toNat + 65536 * (bankOf m s).toNat :=
  bankAddr_toNat _ _

theorem ea_dp_toNat (u : Byte) (s : State) : (ea (.dp u) s).toNat = 0xFF00 + u.toNat := by
  change (joinBytes 0xFF u).toNat = _
  rw [joinBytes_toNat, Nat.add_comm]
  rfl

/-- An effective address with a signed displacement (30 R103, R104). -/
theorem ea_toNat_of_eq_add_sext16 {m : Mem} {s : State} {w : Word} {d : Byte} (h : ea m s = w + sext16 d) :
    ((ea m s).toNat : Int) = (w.toNat + d.toInt) % 65536 := by
  rw [h, add_sext16, displaced_toNat]

theorem bankOf_gg_toNat (g : Reg16) (s : State) :
    (bankOf (.gg g) s).toNat = if g = .ix then s.bankX.toNat else if g = .iy then s.bankY.toNat else 0 := by
  cases g <;> rfl

theorem bankOf_xd_toNat (x : RegX) (d : Byte) (s : State) :
    (bankOf (.xd x d) s).toNat = if x = .ix then s.bankX.toNat else if x = .iy then s.bankY.toNat else 0 := by
  cases x <;> rfl

end Sys2Proof.Machine

section Statements

open Sys2Proof Sys2Proof.Machine

/-- Settles O27: bank above effective address, the two read off for each of the five forms. -/
theorem operandAddress : Obligations.OperandAddress := by
  intro s
  refine ⟨fun w => addr_toNat (.mn w) s, fun u => ?_, fun g => ?_, fun x d => ?_, ?_⟩
  · exact (addr_toNat (.dp u) s).trans (ea_dp_toNat u s)
  · rw [addr_toNat, bankOf_gg_toNat]
    rfl
  · rw [addr_toNat, bankOf_xd_toNat, Int.natCast_add, ea_toNat_of_eq_add_sext16 rfl]
    push_cast
    rfl
  · rw [addr_toNat, Int.natCast_add, ea_toNat_of_eq_add_sext16 rfl]
    exact Int.add_zero _

end Statements
end

section
/-! SUPPORT. Word stores, PUSH and POP (spec 40 R139, R140, R143, R144). -/

namespace Sys2Proof.Machine

open Sys2Proof.Rules

/-- A meaning that stores a word and does nothing else. -/
theorem storesWord_done (a : Addr) (w : Word) (s : State) (row dflt : Nat) :
    StoresWord a w s s (done (write16 a w s) row dflt) :=
  ⟨_, rfl, write16_f a w s, (write16_frame a w s).setCost _, write16_storedWord a w s⟩

/-- POP is the read at SP, then the register it fills and SP, no two of which are one register. -/
theorem popQ_eq (q : RegQ) (s : State) :
    let v := read16 (bank0 s.sp) s
    popQ q s = (v.2.setQ q v.1).setSp (s.sp + 2) := by
  simp only [popQ, pop16_eq]
  cases q <;> rfl

theorem popQ_getQ (q : RegQ) (s : State) : (popQ q s).getQ q = (read16 (bank0 s.sp) s).1 := State.setQ_getQ _ q _

theorem popQ_f {q : RegQ} (hq : q ≠ .af) (s : State) : (popQ q s).f = s.f :=
  (State.setQ_f _ hq _).trans (pop16_f s)

theorem popQ_mem (q : RegQ) (s : State) : (popQ q s).mem = s.mem := by
  simp [popQ]

/-- POP leaves all but the register it fills and SP, and the system as its read leaves it. -/
theorem popQ_frame (q : RegQ) (s : State) :
    Frame (halvesOfQ q) (wideOfQ q ++ [.sp]) s (read16 (bank0 s.sp) s).2 (popQ q s) := by
  rw [popQ_eq]
  have filled := (read16_sameRegs (bank0 s.sp) s).trans (setQ_sameRegs _ q (read16 (bank0 s.sp) s).1)
  have regs := filled.trans (setSp_sameRegs (s.sp + 2) _)
  rw [List.append_nil] at regs
  exact ⟨regs, (setQ_sameSystem _ q _).trans sameSystem_update, by simp⟩

end Sys2Proof.Machine

section Statements

open Sys2Proof Sys2Proof.Machine

/-- Settles O34: every form is the store of one word at one address. -/
theorem storeWord : Obligations.StoreWord := fun s _ =>
  ⟨fun m g => storesWord_done (addr m s) (s.get16 g) s _ _, fun m w => storesWord_done (addr m s) w s _ _,
    fun u => storesWord_done (addr (.dp u) s) (s.get16 .hl) s _ _, fun u w => storesWord_done (addr (.dp u) s) w s _ _⟩

/-- Settles O35: PUSH is a push of the register, POP fills it from the word at SP. -/
theorem pushAndPop : Obligations.PushAndPop := by
  intro s q
  refine ⟨fun _ => ?_, ?_⟩
  · exact ⟨_, rfl, push16_sp _ s, push16_f _ s, (push16_frame _ s).setCost _, push16_storedWord _ s⟩
  · refine ⟨_, rfl, (State.setCost_getQ _ _ q).trans (popQ_getQ q s), congrArg State.sp (popQ_eq q s),
      fun hq => popQ_f hq s, fun b => congrArg (Memory.read · b) (popQ_mem q s), ?_⟩
    have frame := fun n => (popQ_frame q s).setCost n
    cases q <;> exact frame _

end Statements
end

section
/-! SUPPORT. Calls and returns (spec 44 R279 to R282). -/

namespace Sys2Proof.Machine

open Sys2Proof.Rules

theorem calls_callIf (c : Bool) (target : Word) (s : State) (n : Nat) :
    Calls c target s (.next ((callIf c target s).setCost n)) := by
  refine ⟨_, rfl, ?_⟩
  cases c with
  | false => exact ⟨rfl, (Frame.refl s).setCost n, fun _ => rfl⟩
  | true =>
    exact ⟨push16_f s.pc s, rfl, push16_sp s.pc s, (push16_frame s.pc s).setPc_setCost target n,
      push16_storedWord s.pc s⟩

theorem returns_retIf (c : Bool) (s : State) (n : Nat) : Returns c s (.next ((retIf c s).setCost n)) := by
  refine ⟨_, rfl, ?_⟩
  cases c with
  | false => exact ⟨rfl, fun _ => rfl, (Frame.refl s).setCost n⟩
  | true =>
    exact ⟨pop16_f s, fun b => congrArg (Memory.read · b) (pop16_mem s), rfl, pop16_sp s,
      (pop16_frame s).setPc_setCost _ n⟩

/-- RETI is its two reads, then the registers they fill (44 R282). -/
theorem returnFromInterrupt_eq (s : State) :
    let v := read16 (bank0 s.sp) s
    let w := read16 (bank0 (s.sp + 2)) v.2
    returnFromInterrupt s = ((w.2.setAf v.1).setSp (s.sp + 4)).setPc w.1 := by
  have sp : s.sp + 2 + 2 = s.sp + 4 := BitVec.add_assoc ..
  simp only [returnFromInterrupt, pop16_eq, State.setAf_sp, State.setSp_sp, read16_setAf, read16_setSp, sp]
  rfl

/-- RETI leaves all but A, SP and PC, and the system as its two reads leave it. -/
theorem returnFromInterrupt_frame (s : State) :
    FrameButPc [.a] [.sp] s (read16 (bank0 (s.sp + 2)) (read16 (bank0 s.sp) s).2).2 (returnFromInterrupt s) := by
  rw [returnFromInterrupt_eq]
  have reads := (read16_sameRegs (bank0 s.sp) s).trans (read16_sameRegs (bank0 (s.sp + 2)) _)
  have filled := (reads.trans (setAf_sameRegs _ (read16 (bank0 s.sp) s).1)).trans (setSp_sameRegs (s.sp + 4) _)
  exact ⟨filled.setPc _, sameSystem_update⟩

end Sys2Proof.Machine

section Statements

open Sys2Proof Sys2Proof.Machine Sys2Proof.Rules

/-- Settles O59: every form is a call, a return under its condition, or RETI. -/
theorem callsAndReturns : Obligations.CallsAndReturns := by
  intro s
  refine ⟨fun _ => ⟨fun w => calls_callIf true w s _, fun cc m => ?_, fun st => ?_⟩, returns_retIf true s _,
    fun cc => ?_, ?_⟩
  · rw [← holds_eq_condition]
    exact calls_callIf (holds cc s) (ea m s) s _
  · rw [← rel16_eq_displaced]
    exact calls_callIf true (rel16 st s) s _
  · rw [← holds_eq_condition]
    exact returns_retIf (holds cc s) s _
  · obtain ⟨af, -, -, -, -, mem, -⟩ := returnFromInterrupt_fields s
    have transfer := returnFromInterrupt_eq s
    obtain ⟨regs, system⟩ := returnFromInterrupt_frame s
    exact ⟨_, rfl, af, congrArg State.pc transfer, congrArg State.sp transfer, ⟨regs.setCost _, system.setCost _⟩,
      fun b => congrArg (Memory.read · b) mem⟩

end Statements
end

section
/-! SUPPORT. The acceptance of an interrupt (spec 60 R325): its stores, then the registers and bits it sets. -/

namespace Sys2Proof.Machine

open Sys2Proof.Rules

/-! ### The stores -/

/-- The acceptance pushes AF after the return address (R325). -/
def pushesAf (i : Fin 14) (s : State) : Bool := decide (3 ≤ i.val) || s.cfg.nmFrameHasAf

/-- What the pushes of an acceptance store, SP as before. -/
def acceptStores (i : Fin 14) (ret : Word) (s : State) : State :=
  let s1 := write16 (bank0 (s.sp - 2)) ret s
  if pushesAf i s then write16 (bank0 (s.sp - 4)) s.af s1 else s1

/-- The frame that an acceptance pushes is its stores, then SP. -/
theorem pushFrame_eq (i : Fin 14) (ret : Word) (s : State) :
    pushFrame i ret s = (acceptStores i ret s).setSp (s.sp - if pushesAf i s then 4 else 2) := by
  have pushes : (3 ≤ i.val ∨ s.cfg.nmFrameHasAf = true) ↔ pushesAf i s = true := by simp [pushesAf]
  have sp : s.sp - 2 - 2 = s.sp - 4 := by bv_omega
  simp only [pushFrame, acceptStores, pushes]
  cases pushesAf i s with
  | false => exact push16_eq ret s
  | true =>
    simp only [if_true, push16_eq, State.setSp_sp, State.setSp_af, write16_af, write16_setSp, sp]
    rfl

theorem acceptStores_sameRegs (i : Fin 14) (ret : Word) (s : State) : SameRegs [] [] s (acceptStores i ret s) := by
  have first := write16_sameRegs (bank0 (s.sp - 2)) ret s
  unfold acceptStores
  dsimp only
  split
  · exact first.trans (write16_sameRegs _ _ _)
  · exact first

theorem acceptStores_f (i : Fin 14) (ret : Word) (s : State) : (acceptStores i ret s).f = s.f := by
  unfold acceptStores
  split <;> simp

/-! ### The latch -/

/-- The latch of the accepted source cleared, but for the level-triggered source 3 (R325). -/
def clearLatch (i : Fin 14) (p : BitVec 14) : BitVec 14 := if i.val = 3 then p else p &&& ~~~(1#14 <<< i.val)

theorem clearLatch_getLsbD (i : Fin 14) (p : BitVec 14) (j : Nat) :
    (clearLatch i p).getLsbD j = (p.getLsbD j && !decide (j = i.val ∧ i.val ≠ 3)) := by
  unfold clearLatch
  split
  next h3 => simp [h3]
  next h3 =>
    have bit : (1#14 <<< i.val).getLsbD j = decide (i.val = j) := by
      have := BitVec.getLsbD_twoPow (w := 14) i.val j
      rwa [decide_eq_true i.isLt, Bool.true_and] at this
    by_cases hj : j < 14
    · rw [BitVec.getLsbD_and, BitVec.getLsbD_not, bit]
      simp [h3, hj, eq_comm]
    · simp [BitVec.getLsbD_of_ge _ _ (Nat.le_of_not_lt hj)]

/-! ### The acceptance -/

/-- An acceptance is its stores, then SP, I, the latch, `halted` and PC. -/
theorem accept_eq (i : Fin 14) (ret : Word) (s : State) :
    accept i ret s =
      (((((acceptStores i ret s).setSp (s.sp - if pushesAf i s then 4 else 2)).setF (setI false s.f)).setPending
        (clearLatch i (acceptStores i ret s).pending)).setHalted false).setPc (entryAddress i) := by
  rw [← acceptStores_f i ret s]
  unfold accept clearLatch
  rw [pushFrame_eq]
  dsimp only
  split <;> rfl

theorem entryAddress_toNat (i : Fin 14) : (entryAddress i).toNat = 0x10 + 8 * i.val := by
  have := i.isLt
  rw [entryAddress, BitVec.toNat_ofNat]
  omega

theorem accept_sp (i : Fin 14) (ret : Word) (s : State) :
    (accept i ret s).sp = s.sp - if pushesAf i s then 4 else 2 := by
  rw [accept_eq]
  rfl

theorem accept_flags (i : Fin 14) (ret : Word) (s : State) :
    flagsOf (accept i ret s) = { flagsOf s with i := false } := by
  obtain ⟨-, -, f, -⟩ := accept_fields i ret s
  exact (congrArg Flags.ofByte f).trans (ofByte_updateFlags s.f _)

theorem accept_pending (i : Fin 14) (ret : Word) (s : State) :
    (accept i ret s).pending = clearLatch i (acceptStores i ret s).pending := by
  rw [accept_eq]
  rfl

theorem accept_sameRegs (i : Fin 14) (ret : Word) (s : State) : SameRegs [] [.sp] s (accept i ret s) := by
  rw [accept_eq]
  exact (((acceptStores_sameRegs i ret s).trans (setSp_sameRegs _ _)).trans (setF_sameRegs _ _)).trans sameRegs_update

/-- An acceptance leaves the system as its stores do, but for `halted` and the latch it clears. -/
theorem accept_sameSystem (i : Fin 14) (ret : Word) (s : State) :
    SameSystem { acceptStores i ret s with halted := false, pending := (accept i ret s).pending } (accept i ret s) := by
  rw [accept_eq]
  generalize acceptStores i ret s = u
  exact sameSystem_update

/-- The memory after an acceptance is the memory after its stores. -/
theorem accept_stored (i : Fin 14) (ret : Word) (s : State) :
    let s1 := write16 (bank0 (s.sp - 2)) ret s
    if pushesAf i s then StoredWord (bank0 (s.sp - 4)) s.af s1 (accept i ret s) else SameMemory s1 (accept i ret s) := by
  have mem : (accept i ret s).mem = (acceptStores i ret s).mem := by
    rw [accept_eq]
    rfl
  simp only [StoredWord, SameMemory, mem, acceptStores]
  split
  · exact write16_storedWord _ _ _
  · exact fun _ => rfl

/-- The acceptance is as the rule states it (R325). -/
theorem accepted_accept (i : Fin 14) (ret : Word) (s : State) : Accepted i ret s (accept i ret s) := by
  refine ⟨entryAddress_toNat i, accept_sp i ret s, accept_flags i ret s, rfl, fun j => ?_, accept_sameRegs i ret s,
    accept_sameSystem i ret s, fun _ => ⟨write16_storedWord _ ret s, accept_stored i ret s⟩⟩
  rw [accept_pending]
  exact clearLatch_getLsbD i _ j

theorem accepted_setCost {i : Fin 14} {ret : Word} {s t : State} (h : Accepted i ret s t) (n : Nat) :
    Accepted i ret s (t.setCost n) := by
  obtain ⟨pc, sp, flags, halted, latch, regs, system, mem⟩ := h
  exact ⟨pc, sp, flags, halted, latch, regs.setCost n, system.setCost n, mem⟩

/-- A step with a source to accept is its acceptance (70 R392 (b)). -/
theorem step_eq_acceptStep {s : State} {i : Fin 14} (h : checkInterrupts s = some i) :
    step s = .next (acceptStep i s) := by
  simp only [step, h]

end Sys2Proof.Machine

section Statements

open Sys2Proof Sys2Proof.Machine

/-- Settles O15: the step is the acceptance with its cost, then the time of that cost. -/
theorem acceptanceIsAStep : Obligations.AcceptanceIsAStep := fun s i h =>
  ⟨(accept i s.pc s).setCost s.cfg.intCost.val, accepted_setCost (accepted_accept i s.pc s) _, rfl, step_eq_acceptStep h⟩

end Statements
end

section
/-! SUPPORT. Where the decoder gives up: after the bytes that the first byte fixes (spec 30 R117, R118). -/

namespace Sys2Proof

open Sys2Proof.Rules Sys2Proof.Machine

/-- Every UNKNOWN leaf of a decoder stands where `len` bytes are fetched in all, `seen` of them before it. -/
def Dec.UnknownsAt (len : Nat) : Nat → Dec → Prop
  | _, .instr _ => True
  | seen, .unknown => seen = len
  | seen, .more k => ∀ b, (k b).UnknownsAt len (seen + 1)

/-! ### The shapes that the maps are made of -/

section Shapes

variable {len seen : Nat}

@[simp] theorem Dec.unknownsAt_instr (i : Instr) : (Dec.instr i).UnknownsAt len seen := trivial

@[simp] theorem Dec.unknownsAt_unknown : Dec.unknown.UnknownsAt len seen ↔ seen = len := .rfl

@[simp] theorem Dec.unknownsAt_more (k : Byte → Dec) :
    (Dec.more k).UnknownsAt len seen ↔ ∀ b, (k b).UnknownsAt len (seen + 1) := .rfl

@[simp] theorem Dec.unknownsAt_byte (k : Byte → Instr) : (Dec.byte k).UnknownsAt len seen := fun _ => trivial

@[simp] theorem Dec.unknownsAt_word (k : Word → Dec) :
    (Dec.word k).UnknownsAt len seen ↔ ∀ w, (k w).UnknownsAt len (seen + 2) :=
  ⟨fun h w => joinBytes_hiByte_loByte w ▸ h (loByte w) (hiByte w), fun h lo hi => h (joinBytes hi lo)⟩

/-- A choice of a register by its code gives up at once or not at all. -/
@[simp] theorem Dec.unknownsAt_ofOption (o : Option Instr) :
    (Dec.ofOption o).UnknownsAt len seen ↔ (o = none → seen = len) := by
  cases o <;> simp [Dec.ofOption]

@[simp] theorem unknownsAt_onReg8 (p : BitVec 3) (k : Reg8 → Instr) : (onReg8 p k).UnknownsAt len len :=
  (Dec.unknownsAt_ofOption _).mpr fun _ => rfl

@[simp] theorem unknownsAt_onReg16 (p : BitVec 3) (k : Reg16 → Instr) : (onReg16 p k).UnknownsAt len len :=
  (Dec.unknownsAt_ofOption _).mpr fun _ => rfl

@[simp] theorem unknownsAt_onReg8Byte (p : BitVec 3) (k : Reg8 → Byte → Instr) :
    (onReg8Byte p k).UnknownsAt len len := by
  unfold onReg8Byte
  split <;> simp

end Shapes

/-! ### The maps: each gives up at its own byte -/

@[simp] theorem decodeSrc_unknownsAt (m : Mem) (sub : Byte) (len : Nat) : (decodeSrc m sub).UnknownsAt len len := by
  fun_cases decodeSrc m sub <;> simp

@[simp] theorem decodeDst_unknownsAt (m : Mem) (sub : Byte) (len : Nat) : (decodeDst m sub).UnknownsAt len len := by
  fun_cases decodeDst m sub <;> simp

@[simp] theorem decodeReg_unknownsAt (p : BitVec 3) (sub : Byte) (len : Nat) : (decodeReg p sub).UnknownsAt len len := by
  fun_cases decodeReg p sub <;> simp

/-- The columns whose two low bits are no code of an index register (R32). -/
theorem column_of_regX_none {b : Byte} : RegX.ofCode (low2 b) = none → (low3 b).toNat = 3 ∨ (low3 b).toNat = 7 := by
  revert b
  decide

/-- Below the rows that lead to the SRC, DST and REG maps an UNKNOWN encoding is one byte long. -/
theorem decodeFirst_unknownsAt_one {b : Byte} (h : high5 b < 0x1C) : (decodeFirst b).UnknownsAt 1 1 := by
  have indexColumn := @column_of_regX_none b
  fun_cases decodeFirst b
  all_goals simp
  -- `ADD ix,mn` takes its word before the code is looked at, but every column here is a code
  · exact fun code => (indexColumn code).elim ‹_› ‹_›
  -- the rows of the three maps are not below 0x1C
  all_goals omega

/-- The bytes that lead to the SRC, DST and REG maps, by row and column of the base map: the operand's bytes, then the byte
of that map (R107). -/
theorem decodeFirst_unknownsAt_mapByte (row : Fin 4) (column : Fin 8) :
    let b := BitVec.ofNat 8 (8 * (0x1C + row.val) + column.val)
    (decodeFirst b).UnknownsAt (unknownLength b) 1 := by
  match row, column with
  | 0, 0 | 0, 1 | 0, 2 | 0, 4 | 0, 5 | 0, 6 | 2, 3 => exact fun sub => decodeSrc_unknownsAt _ sub 2
  | 0, 7 | 2, 0 | 2, 1 | 2, 2 => exact fun _ sub => decodeSrc_unknownsAt _ sub 3
  | 0, 3 => exact fun _ _ sub => decodeSrc_unknownsAt _ sub 4
  | 1, 0 | 1, 1 | 1, 2 | 1, 4 | 1, 5 | 1, 6 | 2, 7 => exact fun sub => decodeDst_unknownsAt _ sub 2
  | 1, 7 | 2, 4 | 2, 5 | 2, 6 => exact fun _ sub => decodeDst_unknownsAt _ sub 3
  | 1, 3 => exact fun _ _ sub => decodeDst_unknownsAt _ sub 4
  | 3, 0 | 3, 1 | 3, 2 | 3, 3 | 3, 4 | 3, 5 | 3, 6 => exact fun sub => decodeReg_unknownsAt _ sub 2
  | 3, 7 => exact trivial

/-- An UNKNOWN encoding has the length that its first byte fixes (R118). -/
theorem decodeFirst_unknownsAt (b : Byte) : (decodeFirst b).UnknownsAt (unknownLength b) 1 := by
  by_cases h : high5 b < 0x1C
  · have length : unknownLength b = 1 := by
      revert b
      decide
    rw [length]
    exact decodeFirst_unknownsAt_one h
  · have place : ∃ (row : Fin 4) (column : Fin 8), b = BitVec.ofNat 8 (8 * (0x1C + row.val) + column.val) := by
      revert b
      decide
    obtain ⟨row, column, rfl⟩ := place
    exact decodeFirst_unknownsAt_mapByte row column

end Sys2Proof
end

section
/-! SUPPORT. A fetch through the router and a decode of bytes are one decoder run (spec 30 R91, 20 R63); the step of an
UNKNOWN encoding (44 R290). -/

namespace Sys2Proof.Machine

open Sys2Proof.Rules

/-! ### What a fetch changes -/

/-- A fetch changes PC and what stands outside the core. -/
theorem runDec_state (d : Dec) (s : State) : ∃ w b p l,
    (runDec d s).2 = { s with pc := w, busAnswers := b, ports := p, callLog := l } := by
  induction d generalizing s with
  | instr | unknown => exact ⟨s.pc, s.busAnswers, s.ports, s.callLog, rfl⟩
  | more k ih =>
    obtain ⟨b, p, l, h⟩ := read8_state (bank0 s.pc) s
    obtain ⟨w, b', p', l', h'⟩ := ih (fetch8 s).1 (fetch8 s).2
    refine ⟨w, b', p', l', h'.trans ?_⟩
    rw [fetch8, h]
    rfl

theorem fetch8_pc (s : State) : (fetch8 s).2.pc = s.pc + 1 := by
  simp [fetch8]

theorem pc_add_succ (p : Word) (n : Nat) : p + BitVec.ofNat 16 n + 1 = p + BitVec.ofNat 16 (n + 1) := by
  rw [BitVec.ofNat_add, BitVec.add_assoc]
  rfl

/-- After an UNKNOWN encoding PC is past the bytes that the decoder takes before it gives up. -/
theorem runDec_pc_of_unknownsAt {d : Dec} {len seen : Nat} {p : Word} {s : State} (hd : d.UnknownsAt len seen)
    (hpc : s.pc = p + BitVec.ofNat 16 seen) (hnone : (runDec d s).1 = none) :
    (runDec d s).2.pc = p + BitVec.ofNat 16 len := by
  induction d generalizing seen s with
  | instr i => cases hnone
  | unknown =>
    obtain rfl : seen = len := hd
    exact hpc
  | more k ih => exact ih _ (hd _) ((fetch8_pc s).trans (by rw [hpc, pc_add_succ])) hnone

/-- After an UNKNOWN encoding PC is past the length that the first byte fixes, whatever was read (R63, R118). -/
theorem fetchDecode_unknown_pc {s s1 : State} (h : fetchDecode s = (none, s1)) :
    s1.pc = s.pc + BitVec.ofNat 16 (unknownLength (read8 (bank0 s.pc) s).1) := by
  have pc := runDec_pc_of_unknownsAt (decodeFirst_unknownsAt (fetch8 s).1) (fetch8_pc s) (congrArg Prod.fst h)
  rwa [show runDec (decodeFirst (fetch8 s).1) (fetch8 s).2 = (none, s1) from h] at pc

/-! ### A fetch from memory is a decode of the bytes there -/

/-- What a decoded list of bytes says to a fetch: the instruction or none, and the length. -/
def decodedAnswer : Decoded → Option (Option Instr × Nat)
  | .instr i n => some (some i, n)
  | .unknown n => some (none, n)
  | .short => none

/-- With `n` bytes fetched and `k` more held in memory, the decoder run on the state and on the bytes agree. -/
theorem runDec_of_feed {d : Dec} {s : State} {n k len : Nat} {o : Option Instr}
    (held : ∀ j < n + k, s.holdsByte (bank0 (s.pc + BitVec.ofNat 16 j)) = true)
    (h : decodedAnswer (d.feed (bytesAt k (s.pc + BitVec.ofNat 16 n) s) n) = some (o, len)) :
    runDec d (s.setPc (s.pc + BitVec.ofNat 16 n)) = (o, s.setPc (s.pc + BitVec.ofNat 16 len)) := by
  induction d generalizing n k with
  | instr i =>
    obtain ⟨rfl, rfl⟩ := Prod.mk.inj (Option.some.inj h)
    rfl
  | unknown =>
    obtain ⟨rfl, rfl⟩ := Prod.mk.inj (Option.some.inj h)
    rfl
  | more f ih =>
    cases k with
    | zero => cases h
    | succ k =>
      have byte := fetch8_holdsByte (s := s.setPc (s.pc + BitVec.ofNat 16 n)) (held n (by omega))
      rw [runDec, byte]
      simp only [State.setPc_pc, pc_add_succ]
      refine ih (k := k) _ (fun j hj => held j (by omega)) ?_
      rw [← pc_add_succ]
      exact h

/-- A fetch from memory is the decode of the six bytes there (R91). -/
theorem fetchDecode_of_decode {s : State} {o : Option Instr} {len : Nat} (hmem : fetchLeavesMemory s = false)
    (h : decodedAnswer (decode (bytesAt 6 s.pc s)) = some (o, len)) :
    fetchDecode s = (o, s.setPc (s.pc + BitVec.ofNat 16 len)) := by
  have start : s.pc + BitVec.ofNat 16 0 = s.pc := BitVec.add_zero _
  have held : ∀ j < 0 + 6, s.holdsByte (bank0 (s.pc + BitVec.ofNat 16 j)) = true := by
    intro j hj
    have listed : BitVec.ofNat 16 j ∈ ([0, 1, 2, 3, 4, 5] : List Word) := by
      revert j
      decide
    simpa using List.any_eq_false.mp hmem _ listed
  have run := runDec_of_feed (d := .more decodeFirst) (n := 0) held (by rwa [start])
  rwa [start] at run

/-- 70 R392 (c): the step of an UNKNOWN encoding. -/
theorem step_of_unknown {s s1 : State} (hint : checkInterrupts s = none) (hrun : s.halted = false)
    (h : fetchDecode s = (none, s1)) : step s = .next (finish s.afterEi false (unknownOp s1)) := by
  simp [step, hint, hrun, stepInstr, h]

end Sys2Proof.Machine

section Statements

open Sys2Proof Sys2Proof.Machine

/-- Settles O9: the fetch, which is the decode of the bytes in the first half, then the operation without effect. -/
theorem unknownHasNoEffect : Obligations.UnknownHasNoEffect := by
  refine ⟨fun s n hint hrun hmem hdec => ?_, fun s s1 hint hrun hfetch => ?_⟩
  · have hfetch : fetchDecode s = (none, s.setPc (s.pc + BitVec.ofNat 16 n)) :=
      fetchDecode_of_decode hmem (congrArg decodedAnswer hdec)
    exact ⟨_, step_of_unknown hint hrun hfetch, rfl, rfl, rfl, sameRegs_update, sameSystem_update, fun _ => rfl⟩
  · have pc := fetchDecode_unknown_pc hfetch
    obtain ⟨w, b, p, l, hs1⟩ := runDec_state (.more decodeFirst) s
    obtain rfl : s1 = _ := (congrArg Prod.snd hfetch).symm.trans hs1
    exact ⟨_, step_of_unknown hint hrun hfetch, rfl, pc, rfl, sameRegs_update, sameSystem_update, fun _ => rfl⟩

end Statements
end

section
/-! SUPPORT. Codes, opcode bytes and rows: what the encoder writes for the fields that the decoder reads (spec 30 R99, R107). -/

namespace Sys2Proof

/-! ### The operation codes (R99) -/

/-- The `ooo` code of an ALU operation (R99). -/
def AluOp.code : AluOp → BitVec 3
  | .add => 0 | .adc => 1 | .sub => 2 | .sbc => 3 | .and => 4 | .xor => 5 | .or => 6 | .cp => 7

/-- The `ooo` code of a shift or rotate (R99). -/
def RotOp.code : RotOp → BitVec 3
  | .rlc => 0 | .rrc => 1 | .rl => 2 | .rr => 3 | .sla => 4 | .sra => 5 | .sll => 6 | .srl => 7

@[simp] theorem AluOp.code_ofCode (k : BitVec 3) : (AluOp.ofCode k).code = k := by
  revert k
  decide

@[simp] theorem RotOp.code_ofCode (k : BitVec 3) : (RotOp.ofCode k).code = k := by
  revert k
  decide

/-! ### The register codes, as equivalences -/

@[simp] theorem Reg8.ofCode_eq_some {k : BitVec 3} {r : Reg8} : Reg8.ofCode k = some r ↔ r.code = k :=
  ⟨Reg8.code_of_ofCode, fun h => h ▸ Reg8.ofCode_code r⟩

@[simp] theorem Reg16.ofCode_eq_some {k : BitVec 3} {g : Reg16} : Reg16.ofCode k = some g ↔ g.code = k :=
  ⟨Reg16.code_of_ofCode, fun h => h ▸ Reg16.ofCode_code g⟩

@[simp] theorem RegQ.ofCode_eq_some {k : BitVec 3} {q : RegQ} : RegQ.ofCode k = some q ↔ q.code = k :=
  ⟨RegQ.code_of_ofCode, fun h => h ▸ RegQ.ofCode_code q⟩

@[simp] theorem RegX.ofCode_eq_some {k : BitVec 2} {x : RegX} : RegX.ofCode k = some x ↔ x.code = k :=
  ⟨RegX.code_of_ofCode, fun h => h ▸ RegX.ofCode_code x⟩

/-! ### The rows of one operation field are well formed, and their encodings hold its code -/

section Rows

variable (op : AluOp) (rot : RotOp) (m : Mem) (n u : Byte) (w : Word) (p : Reg8) (g : Reg16)

@[simp] theorem encode_rowAluAAt : (rowAluAAt op m).wellFormed = true ∧
    encode (rowAluAAt op m) = srcBytes m ++ [0b01100#5 ++ op.code] := by
  cases op <;> exact ⟨rfl, rfl⟩

@[simp] theorem encode_rowAluHlAt : (rowAluHlAt op m).wellFormed = true ∧
    encode (rowAluHlAt op m) = srcBytes m ++ [0b01110#5 ++ op.code] := by
  cases op <;> exact ⟨rfl, rfl⟩

@[simp] theorem encode_rowAluAtN : (rowAluAtN op m n).wellFormed = true ∧
    encode (rowAluAtN op m n) = dstBytes m ++ [0b01101#5 ++ op.code, n] := by
  cases op <;> exact ⟨rfl, rfl⟩

@[simp] theorem encode_rowRotAt : (rowRotAt rot m).wellFormed = true ∧
    encode (rowRotAt rot m) = srcBytes m ++ [0b10100#5 ++ rot.code] := by
  cases rot <;> exact ⟨rfl, rfl⟩

@[simp] theorem encode_rowAluAAtU : (rowAluAAtU op u).wellFormed = true ∧
    encode (rowAluAAtU op u) = [0b01100#5 ++ op.code, u] := by
  cases op <;> exact ⟨rfl, rfl⟩

@[simp] theorem encode_rowAluAN : (rowAluAN op n).wellFormed = true ∧
    encode (rowAluAN op n) = [0b01101#5 ++ op.code, n] := by
  cases op <;> exact ⟨rfl, rfl⟩

@[simp] theorem encode_rowAluHlAtU : (rowAluHlAtU op u).wellFormed = true ∧
    encode (rowAluHlAtU op u) = [0b01110#5 ++ op.code, u] := by
  cases op <;> exact ⟨rfl, rfl⟩

@[simp] theorem encode_rowAluHlW : (rowAluHlW op w).wellFormed = true ∧
    encode (rowAluHlW op w) = [0b01111#5 ++ op.code, loByte w, hiByte w] := by
  cases op <;> exact ⟨rfl, rfl⟩

@[simp] theorem encode_rowAluAR : (rowAluAR op p).wellFormed = true ∧
    encode (rowAluAR op p) = [0b11111#5 ++ p.code, 0b01100#5 ++ op.code] := by
  cases op <;> exact ⟨rfl, rfl⟩

@[simp] theorem encode_rowAluRN : (rowAluRN op p n).wellFormed = true ∧
    encode (rowAluRN op p n) = [0b11111#5 ++ p.code, 0b01101#5 ++ op.code, n] := by
  cases op <;> exact ⟨rfl, rfl⟩

@[simp] theorem encode_rowAluHlG : (rowAluHlG op g).wellFormed = true ∧
    encode (rowAluHlG op g) = [0b11111#5 ++ g.code, 0b01110#5 ++ op.code] := by
  cases op <;> exact ⟨rfl, rfl⟩

@[simp] theorem encode_rowRotA : (rowRotA rot).wellFormed = true ∧
    encode (rowRotA rot) = [0b10100#5 ++ rot.code] := by
  cases rot <;> exact ⟨rfl, rfl⟩

@[simp] theorem encode_rowRotR : (rowRotR rot p).wellFormed = true ∧
    encode (rowRotR rot p) = [0b11111#5 ++ p.code, 0b10100#5 ++ rot.code] := by
  cases rot <;> exact ⟨rfl, rfl⟩

@[simp] theorem encode_rowBlock (k : BitVec 3) : (rowBlock k).wellFormed = true ∧
    encode (rowBlock k) = [0xFE, 0b01011#5 ++ k] := by
  revert k
  decide

end Rows

/-! ### An opcode byte by its row and what the row's field leaves -/

/-- An opcode byte is its row and its column (R107). -/
theorem opcode_toNat (b : Byte) : b.toNat = 8 * high5 b + (low3 b).toNat := by
  revert b
  decide

@[simp] theorem high5_append (row : BitVec 5) (k : BitVec 3) : high5 (row ++ k) = row.toNat := by
  revert row k
  decide

@[simp] theorem low3_append (row : BitVec 5) (k : BitVec 3) : low3 (row ++ k) = k := by
  revert row k
  decide

theorem column_last {k : BitVec 3} (h0 : k.toNat ≠ 0) (h1 : k.toNat ≠ 1) (h2 : k.toNat ≠ 2) (h3 : k.toNat ≠ 3)
    (h4 : k.toNat ≠ 4) (h5 : k.toNat ≠ 5) (h6 : k.toNat ≠ 6) : k.toNat = 7 := by
  omega

/-- A three-bit field takes one row of a map (R99). -/
theorem append_low3 {b : Byte} {row : BitVec 5} (h : high5 b = row.toNat) : row ++ low3 b = b := by
  have split (b : Byte) : BitVec.ofNat 5 (high5 b) ++ low3 b = b := by
    revert b
    decide
  simpa [h] using split b

/-- A condition's four bits take two rows of a map (R275). -/
theorem append_low4 {b : Byte} {row : BitVec 4} (h : high5 b = 2 * row.toNat ∨ high5 b = 2 * row.toNat + 1) :
    row ++ low4 b = b := by
  revert b row
  decide

/-- `ADD ix` stands in the columns of its row that the four instructions before it leave (R99). -/
theorem append_low2 {b : Byte} : high5 b = 2 → (low3 b).toNat ≠ 0 → (low3 b).toNat ≠ 1 → (low3 b).toNat ≠ 2 →
    (low3 b).toNat ≠ 3 → 0b000101#6 ++ low2 b = b := by
  revert b
  decide

end Sys2Proof
end

section
/-! SUPPORT. What the decoder ends in is well formed and is encoded by the bytes it was given (spec 30 R107 to R117). -/

namespace Sys2Proof

/-- Every instruction that a decoder, given `seen` before, ends in is well formed and encoded by all bytes given. -/
def Dec.Faithful : List Byte → Dec → Prop
  | seen, .instr i => i.wellFormed = true ∧ encode i = seen
  | _, .unknown => True
  | seen, .more k => ∀ b, (k b).Faithful (seen ++ [b])

/-! ### The shapes that the maps are made of -/

section Shapes

variable {seen : List Byte}

@[simp] theorem Dec.faithful_instr (i : Instr) :
    (Dec.instr i).Faithful seen ↔ i.wellFormed = true ∧ encode i = seen := .rfl

@[simp] theorem Dec.faithful_unknown : Dec.unknown.Faithful seen := trivial

@[simp] theorem Dec.faithful_more (k : Byte → Dec) :
    (Dec.more k).Faithful seen ↔ ∀ b, (k b).Faithful (seen ++ [b]) := .rfl

@[simp] theorem Dec.faithful_byte (k : Byte → Instr) :
    (Dec.byte k).Faithful seen ↔ ∀ b, (k b).wellFormed = true ∧ encode (k b) = seen ++ [b] := .rfl

@[simp] theorem Dec.faithful_word (k : Word → Dec) :
    (Dec.word k).Faithful seen ↔ ∀ w, (k w).Faithful (seen ++ [loByte w, hiByte w]) := by
  simp only [Dec.word, Dec.faithful_more, List.append_assoc, List.singleton_append]
  constructor
  · intro h w
    simpa using h (loByte w) (hiByte w)
  · intro h lo hi
    simpa using h (joinBytes hi lo)

@[simp] theorem Dec.faithful_ofOption_map {α : Type} (o : Option α) (k : α → Instr) :
    (Dec.ofOption (o.map k)).Faithful seen ↔ ∀ r, o = some r → (k r).wellFormed = true ∧ encode (k r) = seen := by
  cases o <;> simp [Dec.ofOption]

@[simp] theorem Dec.faithful_ofOption_bind {α β : Type} (o : Option α) (o' : Option β) (k : α → β → Instr) :
    (Dec.ofOption (o.bind fun r => o'.map (k r))).Faithful seen ↔
      ∀ r, o = some r → ∀ q, o' = some q → (k r q).wellFormed = true ∧ encode (k r q) = seen := by
  cases o <;> cases o' <;> simp [Dec.ofOption]

@[simp] theorem faithful_onReg8 (p : BitVec 3) (k : Reg8 → Instr) : (onReg8 p k).Faithful seen ↔
    ∀ r, Reg8.ofCode p = some r → (k r).wellFormed = true ∧ encode (k r) = seen := by
  simp [onReg8]

@[simp] theorem faithful_onReg16 (p : BitVec 3) (k : Reg16 → Instr) : (onReg16 p k).Faithful seen ↔
    ∀ g, Reg16.ofCode p = some g → (k g).wellFormed = true ∧ encode (k g) = seen := by
  simp [onReg16]

@[simp] theorem faithful_onReg8Byte (p : BitVec 3) (k : Reg8 → Byte → Instr) : (onReg8Byte p k).Faithful seen ↔
    ∀ r, Reg8.ofCode p = some r → ∀ n, (k r n).wellFormed = true ∧ encode (k r n) = seen ++ [n] := by
  unfold onReg8Byte
  split <;> simp [*]

end Shapes

/-! ### The maps: each leaf is encoded by its operand's bytes and its own byte

In each of them the shapes say first what there is to show of every leaf, then the encoder writes its bytes out; what is
left is the opcode byte, by its row and column. The cases are numbered as the lines of the map stand. -/

theorem decodeSrc_faithful {m : Mem} {sub : Byte} {seen : List Byte} (h : seen = srcBytes m ++ [sub]) :
    (decodeSrc m sub).Faithful seen := by
  subst h
  have value := opcode_toNat sub
  fun_cases decodeSrc m sub
  all_goals simp
  all_goals simp +contextual [*, encode, Instr.wellFormed, append_low3]
  -- `ADD ix,(m)`
  case case5 =>
    intro x _
    exact append_low2 ‹_› ‹_› ‹_› ‹_› ‹_›
  all_goals bv_omega

theorem decodeDst_faithful {m : Mem} {sub : Byte} {seen : List Byte} (h : seen = dstBytes m ++ [sub]) :
    (decodeDst m sub).Faithful seen := by
  subst h
  have value := opcode_toNat sub
  fun_cases decodeDst m sub
  all_goals simp
  all_goals simp +contextual [*, encode, Instr.wellFormed, append_low3, append_low4]
  all_goals bv_omega

theorem decodeReg_faithful (p : BitVec 3) (sub : Byte) : (decodeReg p sub).Faithful [0b11111#5 ++ p, sub] := by
  have value := opcode_toNat sub
  fun_cases decodeReg p sub
  all_goals simp
  all_goals simp +contextual [*, encode, Instr.wellFormed, append_low3, append_low4]
  -- `ADD ix,gg`
  case case5 =>
    intro x _ g _
    exact append_low2 ‹_› ‹_› ‹_› ‹_› ‹_›
  all_goals bv_omega

/-- The base map: its own leaves hold the first byte, and the SRC, DST and REG bytes lead to the map they encode. -/
theorem decodeFirst_faithful (b : Byte) : (decodeFirst b).Faithful [b] := by
  have value := opcode_toNat b
  fun_cases decodeFirst b
  all_goals simp
  -- the SRC bytes
  case case62 | case63 | case70 | case71 | case72 | case73 =>
    intros
    exact decodeSrc_faithful (by simp [srcBytes, RegX.code]; bv_omega)
  case case64 =>
    intro
    exact decodeSrc_faithful (by simp [srcBytes, Reg16.code_of_ofCode ‹_›, append_low3, *])
  -- the DST bytes
  case case66 | case67 | case74 | case75 | case76 =>
    intros
    exact decodeDst_faithful (by simp [dstBytes, RegX.code]; bv_omega)
  case case68 =>
    intro
    exact decodeDst_faithful (by simp [dstBytes, Reg16.code_of_ofCode ‹_›, append_low3, *])
  case case77 =>
    have := column_last ‹_› ‹_› ‹_› ‹_› ‹_› ‹_› ‹_›
    intros
    exact decodeDst_faithful (by simp [dstBytes]; bv_omega)
  -- the REG byte
  case case79 =>
    intro sub
    simpa [append_low3 (row := 0b11111#5) ‹_›] using decodeReg_faithful (low3 b) sub
  all_goals simp +contextual [*, encode, Instr.wellFormed, append_low3, append_low4]
  -- `ADD ix,mn`
  case case20 =>
    intro x _
    exact append_low2 ‹_› ‹_› ‹_› ‹_› ‹_›
  -- `LD gg,mn`, whose code is looked at before the word is fetched
  case case36 =>
    rw [Reg16.code_of_ofCode ‹_›]
    exact append_low3 ‹_›
  -- the last columns of their rows
  case case14 | case28 =>
    have := column_last ‹_› ‹_› ‹_› ‹_› ‹_› ‹_› ‹_›
    bv_omega
  all_goals bv_omega

/-- What a decoder answers on bytes is what it ends in, with as many bytes as that instruction has. -/
theorem Dec.Faithful.feed {d : Dec} {seen bs : List Byte} {i : Instr} {n : Nat} (hd : d.Faithful seen)
    (h : d.feed bs seen.length = .instr i n) :
    i.wellFormed = true ∧ n = (encode i).length ∧ (seen ++ bs).take n = encode i := by
  induction d generalizing seen bs with
  | instr j =>
    obtain ⟨rfl, rfl⟩ := Decoded.instr.inj h
    obtain ⟨hwf, henc⟩ := hd
    exact ⟨hwf, congrArg _ henc.symm, by simp [henc]⟩
  | unknown => cases h
  | more k ih =>
    cases bs with
    | nil => cases h
    | cons b bs => simpa using ih b (hd b) (by simpa [Dec.feed] using h)

/-- The decoder is faithful from its first byte on. -/
theorem decode_faithful : (Dec.more decodeFirst).Faithful [] := decodeFirst_faithful

end Sys2Proof
end

section
/-! SUPPORT. The decoder given the bytes that the encoder writes (spec 30 R94 to R99). -/

namespace Sys2Proof

/-! ### A decoder that has been given some bytes -/

/-- The decoder after these bytes; UNKNOWN where it asked for fewer. -/
def Dec.after : Dec → List Byte → Dec
  | d, [] => d
  | .more k, b :: bs => (k b).after bs
  | _, _ :: _ => .unknown

@[simp] theorem Dec.after_nil (d : Dec) : d.after [] = d := by
  cases d <;> rfl

@[simp] theorem Dec.after_more (k : Byte → Dec) (b : Byte) (bs : List Byte) :
    (Dec.more k).after (b :: bs) = (k b).after bs := rfl

@[simp] theorem Dec.after_word (k : Word → Dec) (w : Word) (bs : List Byte) :
    (Dec.word k).after (loByte w :: hiByte w :: bs) = (k w).after bs := by
  simp [Dec.word]

theorem Dec.after_append (d : Dec) (bs cs : List Byte) : d.after (bs ++ cs) = (d.after bs).after cs := by
  induction bs generalizing d with
  | nil => simp
  | cons b bs ih =>
    cases d with
    | more k => exact ih (k b)
    | instr | unknown => cases cs <;> rfl

/-- A decoder that ends in an instruction after some bytes answers it, whatever comes after them. -/
theorem Dec.feed_of_after {d : Dec} {bs : List Byte} {i : Instr} (h : d.after bs = .instr i) (rest : List Byte) (n : Nat) :
    d.feed (bs ++ rest) n = .instr i (n + bs.length) := by
  induction bs generalizing d n with
  | nil =>
    obtain rfl : d = .instr i := by simpa using h
    rfl
  | cons b bs ih =>
    cases d with
    | more k => simpa [Dec.feed, Nat.add_assoc, Nat.add_comm 1] using ih h (n + 1)
    | instr | unknown => cases h

/-! ### The forms of an encoding -/

/-- The decoder reads the encoding back, whole, and it is 1 to 6 bytes long. -/
def ReadsBack (i : Instr) : Prop :=
  (Dec.more decodeFirst).after (encode i) = .instr i ∧ lengthWellFormed (encode i).length = true

/-- The SRC bytes of an operand lead to the SRC map of that operand (R95). -/
theorem after_srcBytes (m : Mem) : (Dec.more decodeFirst).after (srcBytes m) = .more (decodeSrc m) := by
  cases m with
  | gg p => cases p <;> rfl
  | mn a => exact (Dec.after_word (fun a => .more (decodeSrc (.mn a))) a []).trans (Dec.after_nil _)
  | dp | hla => rfl
  | xd y d => cases y <;> rfl

/-- The DST bytes of an operand lead to the DST map of that operand (R96). -/
theorem after_dstBytes (m : Mem) : (Dec.more decodeFirst).after (dstBytes m) = .more (decodeDst m) := by
  cases m with
  | gg p => cases p <;> rfl
  | mn a => exact (Dec.after_word (fun a => .more (decodeDst (.mn a))) a []).trans (Dec.after_nil _)
  | dp | hla => rfl
  | xd y d => cases y <;> rfl

theorem length_srcBytes (m : Mem) : 1 ≤ (srcBytes m).length ∧ (srcBytes m).length ≤ 3 := by
  cases m <;> simp [srcBytes]

theorem length_dstBytes (m : Mem) : 1 ≤ (dstBytes m).length ∧ (dstBytes m).length ≤ 3 := by
  cases m <;> simp [dstBytes]

/-- A SRC form is read back when the SRC map answers it at its last byte (R95). -/
theorem readsBack_src {i : Instr} {m : Mem} {sub : Byte} (bytes : encode i = srcBytes m ++ [sub])
    (h : decodeSrc m sub = .instr i) : ReadsBack i := by
  obtain ⟨least, most⟩ := length_srcBytes m
  constructor
  · simp [bytes, Dec.after_append, after_srcBytes, h]
  · simp [bytes, lengthWellFormed]
    omega

/-- A DST form is read back when the DST map does so, up to two bytes of an immediate included (R96, R98). -/
theorem readsBack_dst {i : Instr} {m : Mem} {sub : Byte} {rest : List Byte} (bytes : encode i = dstBytes m ++ sub :: rest)
    (h : (decodeDst m sub).after rest = .instr i) (short : rest.length ≤ 2) : ReadsBack i := by
  obtain ⟨least, most⟩ := length_dstBytes m
  constructor
  · simp [bytes, Dec.after_append, after_dstBytes, h]
  · simp [bytes, lengthWellFormed]
    omega

/-- A REG form is read back when the REG map does so, up to one byte of an immediate included (R97, R98). -/
theorem readsBack_reg {i : Instr} {p : Reg8} {sub : Byte} {rest : List Byte}
    (bytes : encode i = (0b11111#5 ++ p.code) :: sub :: rest)
    (h : (decodeReg p.code sub).after rest = .instr i) (short : rest.length ≤ 1) : ReadsBack i := by
  have map : decodeFirst (0b11111#5 ++ p.code) = .more (decodeReg p.code) := by cases p <;> rfl
  constructor
  · simp [bytes, map, h]
  · simp [bytes, lengthWellFormed]
    omega

/-- A base form of a first byte and a 16-bit immediate (R94, R98). -/
theorem readsBack_word {row : Word → Instr} {w : Word} {op : Byte} (bytes : encode (row w) = [op, loByte w, hiByte w])
    (h : decodeFirst op = .word fun w => .instr (row w)) : ReadsBack (row w) := by
  constructor
  · simp [bytes, h]
  · simp [bytes, lengthWellFormed]

/-- Every well-formed instruction is read back: by its form, and by the codes of the field in its opcode bytes. -/
theorem readsBack_of_wellFormed {i : Instr} (h : i.wellFormed = true) : ReadsBack i := by
  cases i with
  -- BASE: no operand, or bytes only
  | nop | halt | di | ei | exDeHl | exAfAf | exx | daa | rcf | scf | ccf | cpl | neg | ret | reti | swi
  | rlca | rrca | rla | rra | slaa | sraa | slla | srla
  | incx | decx | mulN | divN | djnz | djnzBc | ldAAtU | ldAtUA | ldAtUN | ldHlAtU | ldAtUHl | incAtU | decAtU | incwAtU | decwAtU
  | addAAtU | adcAAtU | subAAtU | sbcAAtU | andAAtU | xorAAtU | orAAtU | cpAAtU
  | addAN | adcAN | subAN | sbcAN | andAN | xorAN | orAN | cpAN
  | addHlAtU | adcHlAtU | subHlAtU | sbcHlAtU | andHlAtU | xorHlAtU | orHlAtU | cpHlAtU => exact ⟨rfl, rfl⟩
  -- BASE: a register, a condition or a bit number in the first byte
  | ldAR r | ldRA r | ldRN r | incR r | decR r => cases r <;> exact ⟨rfl, rfl⟩
  | ldHlG g | ldGHl g | incG g | decG g => cases g <;> exact ⟨rfl, rfl⟩
  | push q | pop q => cases q <;> exact ⟨rfl, rfl⟩
  | jr cc => cases cc <;> exact ⟨rfl, rfl⟩
  | bitAtU b u | resAtU b u | setAtU b u => simp [ReadsBack, encode, decodeFirst, Dec.byte, lengthWellFormed]
  -- BASE: a word after the first byte
  | ldar | jp | jrl | call | callr
  | addHlW | adcHlW | subHlW | sbcHlW | andHlW | xorHlW | orHlW | cpHlW => exact readsBack_word rfl rfl
  | addXW x => cases x <;> exact readsBack_word rfl rfl
  | ldGW g => cases g <;> exact readsBack_word rfl rfl
  | ldwAtU u w => exact ⟨Dec.after_word (fun w => .instr (.ldwAtU u w)) w [], rfl⟩
  -- SRC
  | rldAt | rrdAt | mulAt | divAt | incAt | decAt | incwAt | decwAt
  | addAAt | adcAAt | subAAt | sbcAAt | andAAt | xorAAt | orAAt | cpAAt
  | addHlAt | adcHlAt | subHlAt | sbcHlAt | andHlAt | xorHlAt | orHlAt | cpHlAt
  | rlcAt | rrcAt | rlAt | rrAt | slaAt | sraAt | sllAt | srlAt => exact readsBack_src rfl rfl
  | addXAt x => cases x <;> exact readsBack_src rfl rfl
  | ldRAt r => cases r <;> exact readsBack_src rfl rfl
  | ldGAt g | exAt _ g => cases g <;> exact readsBack_src rfl rfl
  | tsetAt | bitAt | resAt | setAt => exact readsBack_src rfl (by simp [decodeSrc])
  -- DST
  | ldAtN | addAtN | adcAtN | subAtN | sbcAtN | andAtN | xorAtN | orAtN | cpAtN =>
    exact readsBack_dst rfl rfl (by simp)
  | ldwAt m w => exact readsBack_dst rfl (Dec.after_word (fun w => .instr (.ldwAt m w)) w []) le_rfl
  | ldAtR _ r => cases r <;> exact readsBack_dst rfl rfl (by simp)
  | ldAtG _ g => cases g <;> exact readsBack_dst rfl rfl (by simp)
  | lda g m =>
    cases m with
    | gg | mn | dp => cases h
    | xd | hla => cases g <;> exact readsBack_dst rfl rfl (by simp)
  | jpCc cc | callCc cc => cases cc <;> exact readsBack_dst rfl rfl (by simp)
  -- REG
  | mulR p | divR p
  | addAR p | adcAR p | subAR p | sbcAR p | andAR p | xorAR p | orAR p | cpAR p
  | addRN p | adcRN p | subRN p | sbcRN p | andRN p | xorRN p | orRN p | cpRN p
  | rlcR p | rrcR p | rlR p | rrR p | slaR p | sraR p | sllR p | srlR p
  | addHlG p | adcHlG p | subHlG p | sbcHlG p | andHlG p | xorHlG p | orHlG p | cpHlG p => cases p <;> exact ⟨rfl, rfl⟩
  | tsetR b p | bitR b p | resR b p | setR b p =>
    exact readsBack_reg rfl (by simp [decodeReg, onReg8, Dec.ofOption]) (by simp)
  | ldRR r p => cases r <;> cases p <;> exact ⟨rfl, rfl⟩
  | ldGG g p => cases g <;> cases p <;> exact ⟨rfl, rfl⟩
  | addXG x p => cases x <;> cases p <;> exact ⟨rfl, rfl⟩
  | ldi | ldir | ldd | lddr | cpi | cpir | cpd | cpdr => exact ⟨rfl, rfl⟩
  | retCc cc => cases cc <;> exact ⟨rfl, rfl⟩

end Sys2Proof
end

section
/-! SUPPORT. What a decoder run gives: the length of an UNKNOWN encoding (spec 30 R118), and the step of an instruction
(spec 70 R392). -/

namespace Sys2Proof

/-- An UNKNOWN answer counts the bytes up to where the decoder gives up. -/
theorem Dec.UnknownsAt.feed {d : Dec} {len seen n : Nat} {bs : List Byte} (hd : d.UnknownsAt len seen)
    (h : d.feed bs seen = .unknown n) : n = len := by
  induction d generalizing seen bs with
  | instr i => cases h
  | unknown =>
    obtain rfl : seen = n := Decoded.unknown.inj h
    exact hd
  | more k ih =>
    cases bs with
    | nil => cases h
    | cons b bs => exact ih b (hd b) h

end Sys2Proof

namespace Sys2Proof.Machine

/-- What a run of a faithful decoder finds is well formed. -/
theorem runDec_wellFormed {d : Dec} {seen : List Byte} {s : State} {i : Instr} (hd : d.Faithful seen)
    (h : (runDec d s).1 = some i) : i.wellFormed = true := by
  induction d generalizing seen s with
  | instr j =>
    obtain rfl : j = i := Option.some.inj h
    exact hd.1
  | unknown => cases h
  | more k ih => exact ih _ (hd _) h

/-- 70 R392 (c) to (e): the step of a decoded instruction, which is well formed. -/
theorem step_of_instr {s s1 : State} {i : Instr} (hint : checkInterrupts s = none) (hrun : s.halted = false)
    (h : fetchDecode s = (some i, s1)) :
    i.wellFormed = true ∧ ∃ t, exec i s1 = .next t ∧ step s = .next (finish s.afterEi (decide (i = .ei)) t) := by
  obtain ⟨t, ht, -⟩ := exec_effect i s1
  refine ⟨runDec_wellFormed decode_faithful (congrArg Prod.fst h), t, ht, ?_⟩
  simp [step, hint, hrun, stepInstr, h, ht, beq_eq_decide]

end Sys2Proof.Machine

section Statements

open Sys2Proof Sys2Proof.Machine

/-- Settles O5: the decoder given the encoding ends in the instruction, so it answers it whatever follows. -/
theorem decodeOfEncode : Obligations.DecodeOfEncode := by
  intro i bs h
  obtain ⟨ends, length⟩ := readsBack_of_wellFormed h
  exact ⟨by simpa [decode] using Dec.feed_of_after ends bs 0, length⟩

/-- Settles O6: every instruction in the decoder's tree is encoded by the bytes that lead to it. -/
theorem encodeOfDecode : Obligations.EncodeOfDecode := fun _ _ _ h => decode_faithful.feed h

/-- Settles O8: the decoder gives up where the first byte says. -/
theorem unknownLength : Obligations.UnknownLength := fun b _ _ h => (decodeFirst_unknownsAt b).feed h

/-- Settles O7, by running the decoder. -/
theorem decodedWords : Obligations.DecodedWords := by
  unfold Obligations.DecodedWords
  decide

/-- Settles O10: the fetch, which is the decode of the bytes in the first half, then the instruction. -/
theorem stepRunsTheInstruction : Obligations.StepRunsTheInstruction :=
  ⟨fun _ _ _ hint hrun hmem hdec => step_of_instr hint hrun (fetchDecode_of_decode hmem (congrArg decodedAnswer hdec)),
    fun _ _ _ => step_of_instr⟩

end Statements
end

section
/-! SUPPORT. Loads, byte stores, exchanges (spec 40 R131 to R138, R141, R142, R145 to R148): the end of each, from the
rules of its accesses and of the register it writes. -/

namespace Sys2Proof.Machine

open Sys2Proof.Rules

/-! ### Accesses -/

theorem coreKept_refl (s : State) : CoreKept s s := ⟨sameRegs_update, rfl, rfl, rfl⟩

/-- A word read keeps registers, F, PC and memory. -/
theorem read16_coreKept (a : Addr) (s : State) : CoreKept s (read16 a s).2 := by
  obtain ⟨b, p, l, h⟩ := read16_state a s
  rw [h]
  exact coreKept_update

/-- What an address does depends on the parameters alone. -/
theorem read16_keepsByte (a b : Addr) (s : State) : (read16 a s).2.keepsByte b = s.keepsByte b := by
  simp [State.keepsByte, State.memKind]

theorem write8_frame (a : Addr) (v : Byte) (s : State) : Frame [] [] s (write8 a v s) (write8 a v s) := by
  obtain ⟨q, k, t0, t1, t2, t3, t4, x, y, m, b, p, l, h⟩ := write8_state a v s
  rw [h]
  exact ⟨sameRegs_update, .refl _, rfl⟩

theorem write8_storedByte (a : Addr) (v : Byte) (s : State) : StoredByte a v s (write8 a v s) :=
  fun b => write8_read s a b v

/-- A store after a read is a store into the memory before it. -/
theorem write16_read16_storedWord (a : Addr) (w : Word) (s : State) :
    StoredWord a w s (write16 a w (read16 a s).2) := by
  intro b
  rw [write16_read, read16_keepsByte, read16_keepsByte, read16_mem]

/-! ### Loads and stores -/

/-- A meaning that stores a byte and does nothing else. -/
theorem storesByte_done (a : Addr) (v : Byte) (s : State) (row dflt : Nat) :
    StoresByte a v s s (done (write8 a v s) row dflt) :=
  ⟨_, rfl, write8_f a v s, (write8_frame a v s).setCost _, write8_storedByte a v s⟩

/-- A meaning that reads, as `io` says, and then loads one 8-bit register. -/
theorem loadsByte_done {s io : State} (h : CoreKept s io) (r : Reg8) (v : Byte) (row dflt : Nat) :
    LoadsByte r v s io (done (io.set8 r v) row dflt) := by
  obtain ⟨regs, f, pc, mem⟩ := h
  have frame : Frame [r] [] s io (io.set8 r v) :=
    ⟨regs.trans (set8_sameRegs io r v), set8_sameSystem io r v, (State.set8_pc io r v).trans pc⟩
  have loaded : (io.set8 r v).get8 r = v := by rw [State.set8_get8, if_pos rfl]
  exact ⟨_, rfl, (State.setCost_get8 _ _ r).trans loaded, (State.set8_f io r v).trans f, frame.setCost _,
    fun b => congrArg (Memory.read · b) ((State.set8_mem io r v).trans mem)⟩

/-- A meaning that reads, as `io` says, and then loads one 16-bit register. -/
theorem loadsWord_done {s io : State} (h : CoreKept s io) (g : Reg16) (w : Word) (row dflt : Nat) :
    LoadsWord g w s io (done (io.set16 g w) row dflt) := by
  obtain ⟨regs, f, pc, mem⟩ := h
  have frame : Frame (halvesOf g) (wideOf g) s io (io.set16 g w) :=
    ⟨regs.trans (set16_sameRegs io g w), set16_sameSystem io g w, (State.set16_pc io g w).trans pc⟩
  have loaded : (io.set16 g w).get16 g = w := by rw [State.set16_get16, if_pos rfl]
  exact ⟨_, rfl, (State.setCost_get16 _ _ g).trans loaded, (State.set16_f io g w).trans f, frame.setCost _,
    fun b => congrArg (Memory.read · b) ((State.set16_mem io g w).trans mem)⟩

/-! ### Exchanges -/

theorem State.setGen_setGen (s : State) (g h : GenBank) : (s.setGen g).setGen h = s.setGen h := by
  unfold State.setGen
  cases s.gsel <;> rfl

/-- `EX DE,HL` is two register writes of the values before. -/
theorem exDeHl_eq (s : State) : exDeHl s = (s.set16 .de (s.get16 .hl)).set16 .hl (s.get16 .de) := by
  simp only [exDeHl, State.set16, State.get16, State.setGen_gen, State.setGen_setGen]

/-- `EX DE,HL` leaves all but the halves of DE and HL. -/
theorem exDeHl_frame (s : State) : Frame [.d, .e, .h, .l] [] s s (exDeHl s) := by
  rw [exDeHl_eq]
  exact ⟨(set16_sameRegs s .de _).trans (set16_sameRegs _ .hl _), sameSystem_update, rfl⟩

/-- `EX (m),gg` is the two accesses at one address, then the register write; the register stored is the one before. -/
theorem exMem_eq (m : Mem) (g : Reg16) (s : State) :
    let v := read16 (addr m s) s
    exMem m g s = (write16 (addr m s) (s.get16 g) v.2).set16 g v.1 := by
  simp only [exMem, read16_get16]

/-- `EX (m),gg` leaves all but the register, and the system as its accesses leave it. -/
theorem exMem_frame (m : Mem) (g : Reg16) (s : State) :
    let v := read16 (addr m s) s
    Frame (halvesOf g) (wideOf g) s (write16 (addr m s) (s.get16 g) v.2) (exMem m g s) := by
  rw [exMem_eq]
  have accesses := (read16_sameRegs (addr m s) s).trans (write16_sameRegs (addr m s) (s.get16 g) _)
  exact ⟨accesses.trans (set16_sameRegs _ g _), set16_sameSystem _ g _, by simp⟩

theorem exMem_get16 (m : Mem) (g : Reg16) (s : State) : (exMem m g s).get16 g = (read16 (addr m s) s).1 := by
  rw [exMem_eq, State.set16_get16, if_pos rfl]

theorem exMem_storedWord (m : Mem) (g : Reg16) (s : State) : StoredWord (addr m s) (s.get16 g) s (exMem m g s) := by
  intro b
  rw [exMem_eq, State.set16_mem]
  exact write16_read16_storedWord _ _ s b

end Sys2Proof.Machine

section Statements

open Sys2Proof Sys2Proof.Machine Sys2Proof.Rules

/-- Settles O37: the word read at the one address, the old register stored there, then the register written. -/
theorem memoryExchange : Obligations.MemoryExchange := fun s m g _ =>
  ⟨_, rfl, (State.setCost_get16 _ _ g).trans (exMem_get16 m g s), by simp [exMem], (exMem_frame m g s).setCost _,
    exMem_storedWord m g s⟩

/-- Settles O36: `EX DE,HL` is two register writes; each bank exchange flips one selector, and flipping it again is no
change. -/
theorem registerExchanges : Obligations.RegisterExchanges := by
  refine ⟨fun s => ?_, fun s => ?_, fun s => ?_⟩
  · exact ⟨_, rfl, by simp [exDeHl_eq], by simp [exDeHl_eq], rfl, (exDeHl_frame s).setCost _, fun _ => rfl⟩
  · refine ⟨_, rfl, State.swapAf_af s, State.swapAf_afShadow s, rfl, rfl, rfl, rfl, rfl, rfl, sameSystem_update,
      fun _ => rfl, s.swapAf.swapAf.setCost _, rfl, ?_⟩
    rw [State.swapAf_swapAf]
    exact ⟨sameRegs_update, rfl⟩
  · refine ⟨_, rfl, State.swapGen_gen s, State.swapGen_genShadow s, rfl, rfl, rfl, rfl, rfl, rfl, sameSystem_update,
      fun _ => rfl, s.swapGen.swapGen.setCost _, rfl, ?_⟩
    rw [State.swapGen_swapGen]
    exact ⟨sameRegs_update, rfl⟩

/-- Settles O31: every form loads one register, the last two after one read. -/
theorem loadByte : Obligations.LoadByte := fun s =>
  have register := loadsByte_done (coreKept_refl s)
  have memory := fun r m => loadsByte_done (read8_coreKept (addr m s) s) r (read8 (addr m s) s).1
  ⟨fun r => register .a (s.get8 r) _ _, fun r => register r (s.get8 .a) _ _, fun r p => register r (s.get8 p) _ _,
    fun r n => register r n _ _, fun u => memory .a (.dp u) _ _, fun r m => memory r m _ _⟩

/-- Settles O32: every form is the store of one byte at one address. -/
theorem storeByte : Obligations.StoreByte := fun s _ =>
  ⟨fun m r => storesByte_done (addr m s) (s.get8 r) s _ _, fun m n => storesByte_done (addr m s) n s _ _,
    fun u => storesByte_done (addr (.dp u) s) (s.get8 .a) s _ _, fun u n => storesByte_done (addr (.dp u) s) n s _ _⟩

/-- Settles O33: every form loads one register: with a register or the operand, with a word read, or with an effective
address, which is the displaced base of the rules. -/
theorem loadWord : Obligations.LoadWord := by
  intro s
  have register := loadsWord_done (coreKept_refl s)
  have memory := fun g m => loadsWord_done (read16_coreKept (addr m s) s) g (read16 (addr m s) s).1
  refine ⟨fun g w => register g w _ _, fun g => register .hl (s.get16 g) _ _, fun g => register g (s.get16 .hl) _ _,
    fun g p => register g (s.get16 p) _ _, fun u => memory .hl (.dp u) _ _, fun g m => memory g m _ _,
    fun g x d => ?_, fun g => ?_, fun st => ?_⟩
  · rw [← add_sext16]
    exact register g (ea (.xd x d) s) _ _
  · rw [← add_sext16]
    exact register g (ea .hla s) _ _
  · rw [← rel16_eq_displaced]
    exact register .hl (rel16 st s) _ _

end Statements
end

section
/-! SUPPORT. Block transfer and compare (spec 41 R170 to R179): an element step is its accesses, then three or two pairs and
F; a repeating form then goes back by 2 while elements are left. -/

namespace Sys2Proof.Machine

open Sys2Proof.Rules

/-! ### A jump under a condition -/

@[simp] theorem jumpIf_get16 (c : Bool) (w : Word) (s : State) (g : Reg16) : (jumpIf c w s).get16 g = s.get16 g := by
  cases c with
  | false => rfl
  | true => exact State.setPc_get16 s w g

@[simp] theorem jumpIf_f (c : Bool) (w : Word) (s : State) : (jumpIf c w s).f = s.f := by cases c <;> rfl

@[simp] theorem jumpIf_mem (c : Bool) (w : Word) (s : State) : (jumpIf c w s).mem = s.mem := by cases c <;> rfl

@[simp] theorem jumpIf_pc (c : Bool) (w : Word) (s : State) : (jumpIf c w s).pc = if c then w else s.pc := by
  cases c <;> rfl

/-- The end of a jump under a condition: PC, then the cost. -/
theorem Frame.jumpIf_setCost {ex8 : List Reg8} {exX : List RegX} {s io t : State} (h : Frame ex8 exX s io t) (c : Bool)
    (w : Word) (n : Nat) : FrameButPc ex8 exX s io ((jumpIf c w t).setCost n) := by
  obtain ⟨regs, system, -⟩ := h
  cases c with
  | false => exact ⟨regs.setCost n, system.setCost n⟩
  | true => exact ⟨(regs.setPc w).setCost n, (system.setPc w).setCost n⟩

/-! ### Element steps -/

/-- What the element step `e` ends in: for a repeating form, PC goes back by 2 while the repeat continues, as `repeatWhile`
does; the other forms leave it (R178). -/
def afterElement (again : Bool) (e : State × Bool) : State := jumpIf (again && e.2) (e.1.pc - 2) e.1

@[simp] theorem afterElement_get16 (again : Bool) (e : State × Bool) (g : Reg16) :
    (afterElement again e).get16 g = e.1.get16 g := jumpIf_get16 _ _ _ g

@[simp] theorem afterElement_f (again : Bool) (e : State × Bool) : (afterElement again e).f = e.1.f := jumpIf_f _ _ _

@[simp] theorem afterElement_mem (again : Bool) (e : State × Bool) : (afterElement again e).mem = e.1.mem :=
  jumpIf_mem _ _ _

@[simp] theorem afterElement_pc (again : Bool) (e : State × Bool) :
    (afterElement again e).pc = if (again && e.2) = true then e.1.pc - 2 else e.1.pc := jumpIf_pc _ _ _

/-- A store after a read is a store into the memory before it. -/
theorem write8_read8_storedByte (a b : Addr) (v : Byte) (s : State) : StoredByte a v s (write8 a v (read8 b s).2) := by
  intro c
  rw [write8_read, read8_mem]
  simp [State.keepsByte, State.memKind]

/-- LDI and LDD are the read at HL, the store at DE, then the three pairs and F (R170, R172). -/
theorem ldElement_eq (d : Word) (s : State) :
    let v := read8 (bank0 (s.get16 .hl)) s
    let bc := s.get16 .bc - 1
    ldElement d s =
      (((((write8 (bank0 (s.get16 .de)) v.1 v.2).set16 .bc bc).set16 .de (s.get16 .de + d)).set16 .hl
        (s.get16 .hl + d)).setF (ldiFlags (bc != 0) s.f), bc != 0) := by
  simp [ldElement, State.set16, State.get16, State.setGen_setGen]

/-- LDI and LDD leave all but the three pairs, and the system as their accesses leave it. -/
theorem ldElement_frame (d : Word) (s : State) :
    let v := read8 (bank0 (s.get16 .hl)) s
    Frame [.b, .c, .d, .e, .h, .l] [] s (write8 (bank0 (s.get16 .de)) v.1 v.2) (ldElement d s).1 := by
  obtain ⟨read, -, -, -⟩ := read8_coreKept (bank0 (s.get16 .hl)) s
  obtain ⟨write, -, -⟩ := write8_frame (bank0 (s.get16 .de)) (read8 (bank0 (s.get16 .hl)) s).1
    (read8 (bank0 (s.get16 .hl)) s).2
  have pairs := fun bc de hl => (((read.trans write).trans (set16_sameRegs _ .bc bc)).trans
    (set16_sameRegs _ .de de)).trans (set16_sameRegs _ .hl hl)
  rw [ldElement_eq]
  exact ⟨(pairs _ _ _).trans (setF_sameRegs _ _), sameSystem_update, by simp⟩

/-- H and N clear, V while BC is not 0; the other flags as before (R170). -/
theorem ldElement_flagsOf (d : Word) (s : State) :
    flagsOf (ldElement d s).1 =
      { flagsOf s with h := false, n := false, v := decide (s.get16 .bc - 1 ≠ 0) } := by
  simp [ldElement_eq, flagsOf, ldiFlags, bne, beq_eq_decide]

/-- The byte at HL stands at DE afterwards. -/
theorem ldElement_storedByte (d : Word) (s : State) :
    StoredByte (bank0 (s.get16 .de)) (read8 (bank0 (s.get16 .hl)) s).1 s (ldElement d s).1 := by
  intro b
  rw [ldElement_eq, State.setF_mem, State.set16_mem, State.set16_mem, State.set16_mem]
  exact write8_read8_storedByte _ _ _ s b

/-- CPI and CPD are the read at HL, then the two pairs and F (R174, R176). -/
theorem cpElement_eq (d : Word) (s : State) :
    let v := read8 (bank0 (s.get16 .hl)) s
    let bc := s.get16 .bc - 1
    cpElement d s =
      (((v.2.set16 .bc bc).set16 .hl (s.get16 .hl + d)).setF (cpiFlags (s.get8 .a) v.1 (bc != 0) s.f),
        bc != 0 && s.get8 .a - v.1 != 0) := by
  simp [cpElement, State.set16, State.get16, State.setGen_setGen]

/-- CPI and CPD leave all but the two pairs, and the system as their read leaves it. -/
theorem cpElement_frame (d : Word) (s : State) :
    Frame [.b, .c, .h, .l] [] s (read8 (bank0 (s.get16 .hl)) s).2 (cpElement d s).1 := by
  obtain ⟨read, -, -, -⟩ := read8_coreKept (bank0 (s.get16 .hl)) s
  have pairs := fun bc hl => (read.trans (set16_sameRegs _ .bc bc)).trans (set16_sameRegs _ .hl hl)
  rw [cpElement_eq]
  exact ⟨(pairs _ _).trans (setF_sameRegs _ _), sameSystem_update, by simp⟩

/-- S, Z, H of the comparison, N set, V while BC is not 0; C, X and I as before (R174). A difference is 0 exactly when its
operands are equal. -/
theorem cpElement_flagsOf (d : Word) (s : State) :
    let a := s.get8 .a
    let v := (read8 (bank0 (s.get16 .hl)) s).1
    flagsOf (cpElement d s).1 =
      { flagsOf s with
        s := (a - v).getLsbD 7, z := decide (a = v), h := decide (a.toNat % 16 < v.toNat % 16), n := true,
        v := decide (s.get16 .bc - 1 ≠ 0) } := by
  simp [cpElement_eq, flagsOf, cpiFlags, bne, beq_eq_decide, BitVec.sub_eq_iff_eq_add, BitVec.msb_eq_getLsbD_last]

theorem cpElement_mem (d : Word) (s : State) : (cpElement d s).1.mem = s.mem := by
  simp [cpElement_eq]

/-- The repeat of a compare ends with BC, or with a match. -/
theorem cpElement_more (d : Word) (s : State) :
    (cpElement d s).2 = true ↔ s.get16 .bc - 1 ≠ 0 ∧ s.get8 .a ≠ (read8 (bank0 (s.get16 .hl)) s).1 := by
  simp [cpElement_eq, BitVec.sub_eq_iff_eq_add]

/-- A meaning that copies one element. -/
theorem copiesElement_of_exec {d : Word} {again : Bool} {i : Instr}
    (h : ∀ s, ∃ n, exec i s = .next ((afterElement again (ldElement d s)).setCost n)) : CopiesElement d again i := by
  intro s _ hl de bc v
  obtain ⟨n, answer⟩ := h s
  refine ⟨_, answer, ?hl, ?de, ?bc, ?flags, ?pc, (ldElement_frame d s).jumpIf_setCost _ _ n, ?stored⟩
  case hl => simp [ldElement_eq, hl]
  case de => simp [ldElement_eq, de]
  case bc => simp [ldElement_eq, bc]
  case flags => exact (congrArg Flags.ofByte (afterElement_f _ _)).trans (ldElement_flagsOf d s)
  case pc => simp [ldElement_eq, bc]
  case stored =>
    intro b
    rw [State.setCost_mem, afterElement_mem]
    exact ldElement_storedByte d s b

/-- A meaning that compares one element. -/
theorem comparesElement_of_exec {d : Word} {again : Bool} {i : Instr}
    (h : ∀ s, ∃ n, exec i s = .next ((afterElement again (cpElement d s)).setCost n)) : ComparesElement d again i := by
  intro s hl bc v a
  obtain ⟨n, answer⟩ := h s
  refine ⟨_, answer, ?hl, ?bc, ?flags, ?pc, (cpElement_frame d s).jumpIf_setCost _ _ n, ?mem⟩
  case hl => simp [cpElement_eq, hl]
  case bc => simp [cpElement_eq, bc]
  case flags => exact (congrArg Flags.ofByte (afterElement_f _ _)).trans (cpElement_flagsOf d s)
  case pc =>
    obtain ⟨-, -, pc⟩ := cpElement_frame d s
    simp [cpElement_more, pc, bc, a, v, hl]
  case mem => exact fun b => congrArg (Memory.read · b) ((afterElement_mem _ _).trans (cpElement_mem d s))

end Sys2Proof.Machine

section Statements

open Sys2Proof Sys2Proof.Machine Sys2Proof.Rules

/-- Settles O38: every form is one element step, and the repeating forms go back after it while BC is not 0. -/
theorem blockCopy : Obligations.BlockCopy :=
  ⟨copiesElement_of_exec fun _ => ⟨_, rfl⟩, copiesElement_of_exec fun _ => ⟨_, rfl⟩,
    copiesElement_of_exec fun _ => ⟨_, rfl⟩, copiesElement_of_exec fun _ => ⟨_, rfl⟩⟩

/-- Settles O39: every form is one element step, and the repeating forms go back after it while BC is not 0 and there is
no match. -/
theorem blockCompare : Obligations.BlockCompare :=
  ⟨comparesElement_of_exec fun _ => ⟨_, rfl⟩, comparesElement_of_exec fun _ => ⟨_, rfl⟩,
    comparesElement_of_exec fun _ => ⟨_, rfl⟩, comparesElement_of_exec fun _ => ⟨_, rfl⟩⟩

end Statements
end

section
/-! SUPPORT. The cost of an instruction with two costs (spec 70 R395; 41 R178; 42 R221; 44 R275), and when each meaning has
the first. -/

namespace Sys2Proof.Machine

section Costs

variable {s : State} {r : State × Bool} {c : Prop} [Decidable c]

/-- With the default `CYC`, an instruction of two costs costs the first when `c` holds. -/
theorem doneIf_cost (spec : s.cfg.cyc = .spec) (h : Ordinary s r.1) (hc : r.2 = true ↔ c) (row ifTrue ifFalse : Nat) :
    ∃ t, doneIf r row ifTrue ifFalse = .next t ∧ t.cost = if c then ifTrue else ifFalse := by
  refine ⟨_, rfl, ?_⟩
  simp [h.context.cfg, Params.cycles, spec, hc]

/-- The same, with the condition under which it costs the second. -/
theorem doneIf_cost_unless (spec : s.cfg.cyc = .spec) (h : Ordinary s r.1) (hc : r.2 = true ↔ ¬c)
    (row ifTrue ifFalse : Nat) :
    ∃ t, doneIf r row ifTrue ifFalse = .next t ∧ t.cost = if c then ifFalse else ifTrue := by
  rw [← ite_not]
  exact doneIf_cost spec h hc row ifTrue ifFalse

end Costs

theorem djnz_jumps (e : Byte) (s : State) : (djnz e s).2 = true ↔ ¬s.get8 .b = 1 := by
  simp [djnz, BitVec.sub_eq_iff_eq_add]

theorem djnzBc_jumps (e : Byte) (s : State) : (djnzBc e s).2 = true ↔ ¬s.get16 .bc = 1 := by
  simp [djnzBc, BitVec.sub_eq_iff_eq_add]

theorem ldElement_continues (d : Word) (s : State) : (ldElement d s).2 = true ↔ ¬s.get16 .bc = 1 := by
  simp [ldElement_eq, BitVec.sub_eq_iff_eq_add]

theorem cpElement_continues (d : Word) (s : State) :
    (cpElement d s).2 = true ↔ ¬(s.get16 .bc = 1 ∨ s.get8 .a = (read8 (bank0 (s.get16 .hl)) s).1) := by
  rw [cpElement_more, not_or]
  simp [BitVec.sub_eq_iff_eq_add]

end Sys2Proof.Machine

section Statements

open Sys2Proof Sys2Proof.Machine Sys2Proof.Rules

/-- Settles O30: each meaning ends in `doneIf` with the two costs, after an ordinary change, which keeps the parameters. -/
theorem conditionalCosts : Obligations.ConditionalCosts := by
  intro s spec cc e m pen met
  have penalties : pen m = penalty m := by cases m <;> rfl
  have condition_iff : holds cc s = true ↔ met = true := by rw [holds_eq_condition]
  have copy := fun d => doneIf_cost_unless spec (ordinary_repeatWhile s (ordinary_ldElement s d)) (ldElement_continues d s)
  have compare := fun d =>
    doneIf_cost_unless spec (ordinary_repeatWhile s (ordinary_cpElement s d)) (cpElement_continues d s)
  rw [penalties]
  exact ⟨doneIf_cost spec (Ordinary.refl.jumpIf _ _) condition_iff _ _ _,
    doneIf_cost spec (Ordinary.refl.jumpIf _ _) condition_iff _ _ _,
    doneIf_cost spec (ordinary_callIf s _ _) condition_iff _ _ _,
    doneIf_cost spec (ordinary_retIf s _) condition_iff _ _ _,
    doneIf_cost_unless spec (ordinary_djnz s e) (djnz_jumps e s) _ _ _,
    doneIf_cost_unless spec (ordinary_djnzBc s e) (djnzBc_jumps e s) _ _ _,
    doneIf_cost spec (ordinary_incx s e) .rfl _ _ _, doneIf_cost spec (ordinary_decx s e) .rfl _ _ _,
    copy 1 _ _ _, copy 0xFFFF _ _ _, compare 1 _ _ _, compare 0xFFFF _ _ _⟩

end Statements
end

section
/-! SUPPORT. Results and flags of the arithmetic and logic operations: what the model computes in F as a byte is what
the rules say of the flags by name (spec 42 R185 to R188, R215 to R220, R224). -/

namespace Sys2Proof

open Sys2Proof.Rules

/-- A result with the flags of F by name: the form in which the rules give result and flags. -/
def withFlags {w : Nat} (r : BitVec w × Byte) : BitVec w × Flags := (r.1, Flags.ofByte r.2)

section FlagRules

variable {w : Nat} (hb : Nat) (a b : BitVec w) (cin : Bool) (f : Byte)

/-- V of an addition: the operands' signs agree and the result's differs, in both of the rule's forms. -/
theorem sum_overflow (r : BitVec w) : (a.msb == b.msb && r.msb != a.msb) = ((a ^^^ r) &&& (b ^^^ r)).msb := by
  simp only [BitVec.msb_and, BitVec.msb_xor]
  cases a.msb <;> cases b.msb <;> cases r.msb <;> rfl

/-- V of a subtraction: the operands' signs differ and the result's is not the first's. -/
theorem difference_overflow (r : BitVec w) : (a.msb != b.msb && r.msb != a.msb) = ((a ^^^ b) &&& (a ^^^ r)).msb := by
  simp only [BitVec.msb_and, BitVec.msb_xor]
  cases a.msb <;> cases b.msb <;> cases r.msb <;> rfl

theorem addFlags_eq_sum : withFlags (addFlags hb a b cin f) = sum hb a b cin (Flags.ofByte f) := by
  have result : BitVec.ofNat w (a.toNat + b.toNat + cin.toNat) = a + b + BitVec.ofNat w cin.toNat := by
    simp only [BitVec.ofNat_add, BitVec.ofNat_toNat, BitVec.setWidth_eq]
  simp only [withFlags, addFlags, sum, ofByte_updateFlags, result, sum_overflow, ← BitVec.msb_eq_getLsbD_last,
    beq_eq_decide (α := BitVec w)]

theorem subFlags_eq_difference : withFlags (subFlags hb a b cin f) = difference hb a b cin (Flags.ofByte f) := by
  simp only [withFlags, subFlags, difference, ofByte_updateFlags, difference_overflow, ← BitVec.msb_eq_getLsbD_last,
    beq_eq_decide (α := BitVec w)]

theorem incFlags_eq_increment : withFlags (incFlags hb a f) = increment hb a (Flags.ofByte f) := by
  have result : (a.toNat + 1) % 2 ^ w = (a + 1).toNat := by simp
  have isZero : a + 1 = 0 ↔ (a + 1).toNat = 0 := BitVec.toNat_eq
  simp only [withFlags, incFlags, increment, ofByte_updateFlags, result, BitVec.ofNat_toNat, BitVec.setWidth_eq,
    BitVec.msb_eq_decide, beq_eq_decide, isZero]

theorem decFlags_eq_decrement : withFlags (decFlags hb a f) = decrement hb a (Flags.ofByte f) := by
  have result : (a.toNat + 2 ^ w - 1) % 2 ^ w = (a - 1).toNat := by
    rw [BitVec.toNat_sub, show (1 : BitVec w) = 1#w from rfl, BitVec.toNat_ofNat]
    cases w with
    | zero => simp [Nat.mod_one]
    | succ n =>
      have : 1 < 2 ^ (n + 1) := Nat.one_lt_two_pow (Nat.succ_ne_zero n)
      rw [Nat.mod_eq_of_lt this]
      congr 1
      omega
  have isZero : a - 1 = 0 ↔ (a - 1).toNat = 0 := BitVec.toNat_eq
  simp only [withFlags, decFlags, decrement, ofByte_updateFlags, result, BitVec.ofNat_toNat, BitVec.setWidth_eq,
    BitVec.msb_eq_decide, beq_eq_decide, isZero]

end FlagRules

theorem parityEven_eq_evenParity (v : Byte) : parityEven v = evenParity v := by
  revert v
  decide

theorem logicFlags_eq_logicByte (res : Byte) (h : Bool) (f : Byte) :
    withFlags (logicFlags res h (parityEven res) f) = logicByte res h (Flags.ofByte f) := by
  simp [withFlags, logicFlags, logicByte, parityEven_eq_evenParity, BitVec.msb_eq_getLsbD_last, beq_eq_decide]

theorem logicFlags_eq_logicWord (res : Word) (h : Bool) (f : Byte) :
    withFlags (logicFlags res h false f) = logicWord res h (Flags.ofByte f) := by
  simp [withFlags, logicFlags, logicWord, BitVec.msb_eq_getLsbD_last, beq_eq_decide]

/-! ### The eight operations -/

/-- The rules of the eight 8-bit operations, in the words of the statements (R190 to R197). -/
def byteRule : AluOp → Byte → Byte → Flags → Byte × Flags
  | .add => fun a b k => sum 4 a b false k
  | .adc => fun a b k => sum 4 a b k.c k
  | .sub => fun a b k => difference 4 a b false k
  | .sbc => fun a b k => difference 4 a b k.c k
  | .and => fun a b k => logicByte (a &&& b) true k
  | .xor => fun a b k => logicByte (a ^^^ b) false k
  | .or => fun a b k => logicByte (a ||| b) false k
  | .cp => fun a b k => difference 4 a b false k

/-- The rules of the eight 16-bit operations, in the words of the statements (R206 to R213). -/
def wordRule : AluOp → Word → Word → Flags → Word × Flags
  | .add => fun a b k => sum 12 a b false k
  | .adc => fun a b k => sum 12 a b k.c k
  | .sub => fun a b k => difference 12 a b false k
  | .sbc => fun a b k => difference 12 a b k.c k
  | .and => fun a b k => logicWord (a &&& b) true k
  | .xor => fun a b k => logicWord (a ^^^ b) false k
  | .or => fun a b k => logicWord (a ||| b) false k
  | .cp => fun a b k => difference 12 a b false k

theorem alu8_eq_byteRule (op : AluOp) (a b f : Byte) :
    withFlags (alu8 op a b f) = byteRule op a b (Flags.ofByte f) := by
  cases op with
  | add => exact addFlags_eq_sum 4 a b false f
  | adc => exact addFlags_eq_sum 4 a b (carryOf f) f
  | sub | cp => exact subFlags_eq_difference 4 a b false f
  | sbc => exact subFlags_eq_difference 4 a b (carryOf f) f
  | and | xor | or => exact logicFlags_eq_logicByte _ _ f

theorem alu16_eq_wordRule (op : AluOp) (a b : Word) (f : Byte) :
    withFlags (alu16 op a b f) = wordRule op a b (Flags.ofByte f) := by
  cases op with
  | add => exact addFlags_eq_sum 12 a b false f
  | adc => exact addFlags_eq_sum 12 a b (carryOf f) f
  | sub | cp => exact subFlags_eq_difference 12 a b false f
  | sbc => exact subFlags_eq_difference 12 a b (carryOf f) f
  | and | xor | or => exact logicFlags_eq_logicWord _ _ f

/-! ### Complement -/

theorem xor_ones_eq_sub (a : Byte) : a ^^^ 0xFF = BitVec.ofNat 8 (255 - a.toNat) := by
  rw [show (0xFF : Byte) = BitVec.allOnes 8 from rfl, BitVec.xor_allOnes]
  apply BitVec.eq_of_toNat_eq
  rw [BitVec.toNat_not, BitVec.toNat_ofNat]
  omega

theorem cplFlags_eq (a f : Byte) :
    withFlags (a ^^^ 0xFF, cplFlags f) =
      (BitVec.ofNat 8 (255 - a.toNat), { Flags.ofByte f with h := true, n := true }) := by
  rw [← xor_ones_eq_sub]
  simp only [withFlags, cplFlags, ofByte_updateFlags]

end Sys2Proof
end

section
/-! SUPPORT. DAA, and what it makes of the sum and the difference of two packed decimal bytes (spec 42 R225): the
carries and borrows of the decimal digits are those that the binary operation and the digits it leaves show. -/

namespace Sys2Proof

open Sys2Proof.Rules

/-! ### The adjustment -/

/-- The correction of DAA, by the digits of A and the flags (R225). -/
def decimalCorrection (lo hi : Nat) (c h : Bool) : Nat :=
  if c = true then (if lo ≤ 9 ∧ h = false then 0x60 else 0x66)
  else if 10 ≤ lo then (if hi ≤ 8 then 0x06 else 0x66)
  else if 10 ≤ hi then (if h = true then 0x66 else 0x60)
  else (if h = true then 0x06 else 0x00)

/-- C after DAA (R225). -/
def decimalCarry (lo hi : Nat) (c : Bool) : Bool := c || if lo ≤ 9 then decide (10 ≤ hi) else decide (9 ≤ hi)

theorem decimalCorrection_le (lo hi : Nat) (c h : Bool) : decimalCorrection lo hi c h ≤ 0x66 := by
  unfold decimalCorrection
  split_ifs <;> omega

theorem daaDiff_eq (a f : Byte) :
    daaDiff a f =
      BitVec.ofNat 8
        (decimalCorrection (a.toNat % 16) (a.toNat / 16) (Flags.ofByte f).c (Flags.ofByte f).h) := by
  simp only [decimalCorrection, apply_ite (BitVec.ofNat 8)]
  rfl

section DecimalAdjust

variable (a : Byte) (k : Flags)

/-- DAA subtracts the correction after a subtraction, and adds it after an addition. -/
theorem decimalAdjust_toNat :
    let d := decimalCorrection (a.toNat % 16) (a.toNat / 16) k.c k.h
    (decimalAdjust a k).1.toNat = (if k.n = true then a.toNat + 256 - d else a.toNat + d) % 256 :=
  BitVec.toNat_ofNat ..

theorem decimalAdjust_toNat_of_add (hn : k.n = false) :
    (decimalAdjust a k).1.toNat =
      (a.toNat + decimalCorrection (a.toNat % 16) (a.toNat / 16) k.c k.h) % 256 := by
  rw [decimalAdjust_toNat, hn, if_neg Bool.false_ne_true]

theorem decimalAdjust_toNat_of_sub (hn : k.n = true) :
    (decimalAdjust a k).1.toNat =
      (a.toNat + 256 - decimalCorrection (a.toNat % 16) (a.toNat / 16) k.c k.h) % 256 := by
  rw [decimalAdjust_toNat, hn, if_pos rfl]

theorem decimalAdjust_c : (decimalAdjust a k).2.c = decimalCarry (a.toNat % 16) (a.toNat / 16) k.c := rfl

/-- S, Z and V of DAA are those of its result. -/
theorem decimalAdjust_flags :
    let r := (decimalAdjust a k).1
    let c := decimalCarry (a.toNat % 16) (a.toNat / 16) k.c
    (decimalAdjust a k).2 =
      { k with
        s := r.getLsbD 7, z := decide (r = 0), v := evenParity r, c := c, x := c,
        h := if k.n = true then k.h && decide (a.toNat % 16 ≤ 5) else decide (10 ≤ a.toNat % 16) } := rfl

end DecimalAdjust

theorem daaFlags_eq_decimalAdjust (a f : Byte) : withFlags (daaFlags a f) = decimalAdjust a (Flags.ofByte f) := by
  have result : (daaFlags a f).1 = (decimalAdjust a (Flags.ofByte f)).1 := by
    apply BitVec.eq_of_toNat_eq
    have bound := decimalCorrection_le (a.toNat % 16) (a.toNat / 16) (Flags.ofByte f).c (Flags.ofByte f).h
    simp only [decimalAdjust_toNat, daaFlags, daaDiff_eq]
    split
    · rw [BitVec.toNat_sub, BitVec.toNat_ofNat]
      omega
    · rw [BitVec.toNat_add, BitVec.toNat_ofNat]
      omega
  refine Prod.ext result ?_
  rw [decimalAdjust_flags, ← result]
  simp only [withFlags, daaFlags, ofByte_updateFlags, parityEven_eq_evenParity, BitVec.msb_eq_getLsbD_last,
    beq_eq_decide (α := Byte)]
  rfl

/-! ### Packed decimal operands -/

/-- A byte of two decimal digits. -/
def IsBcd (v : Byte) : Prop := v.toNat / 16 ≤ 9 ∧ v.toNat % 16 ≤ 9

/-- The number that a byte of two decimal digits stands for. -/
def bcdValue (v : Byte) : Nat := v.toNat / 16 * 10 + v.toNat % 16

theorem bcd_of_digits {v : Byte} {hi lo : Nat} (h : v.toNat = 16 * hi + lo) (hhi : hi ≤ 9) (hlo : lo ≤ 9) :
    IsBcd v ∧ bcdValue v = 10 * hi + lo := by
  unfold IsBcd bcdValue
  omega

/-! The digits of a binary sum and difference, and the carry out of each (R185, R186). -/

section BinaryDigits

variable (a b : Byte) (k : Flags)

theorem sum_toNat : (sum 4 a b false k).1.toNat = (a.toNat + b.toNat) % 256 := by simp [sum]

theorem sum_lowDigit : (sum 4 a b false k).1.toNat % 16 = (a.toNat % 16 + b.toNat % 16) % 16 := by
  rw [sum_toNat]
  omega

theorem sum_highDigit :
    (sum 4 a b false k).1.toNat / 16 = (a.toNat / 16 + b.toNat / 16 + (a.toNat % 16 + b.toNat % 16) / 16) % 16 := by
  rw [sum_toNat]
  omega

theorem sum_c :
    (sum 4 a b false k).2.c = decide (16 ≤ a.toNat / 16 + b.toNat / 16 + (a.toNat % 16 + b.toNat % 16) / 16) := by
  simp only [sum, Bool.toNat_false]
  exact decide_eq_decide.mpr (by omega)

theorem sum_h : (sum 4 a b false k).2.h = decide (16 ≤ a.toNat % 16 + b.toNat % 16) := rfl

theorem difference_toNat : (difference 4 a b false k).1.toNat = (a.toNat + 256 - b.toNat) % 256 := by
  simp only [difference, Bool.toNat_false, BitVec.sub_zero, BitVec.toNat_sub]
  omega

theorem difference_lowDigit :
    (difference 4 a b false k).1.toNat % 16 = (a.toNat % 16 + 16 - b.toNat % 16) % 16 := by
  rw [difference_toNat]
  omega

theorem difference_highDigit :
    (difference 4 a b false k).1.toNat / 16 =
      (a.toNat / 16 + 16 - b.toNat / 16 - if a.toNat % 16 < b.toNat % 16 then 1 else 0) % 16 := by
  rw [difference_toNat]
  split <;> omega

theorem difference_c :
    (difference 4 a b false k).2.c =
      decide (a.toNat / 16 < b.toNat / 16 + if a.toNat % 16 < b.toNat % 16 then 1 else 0) := by
  simp only [difference, Bool.toNat_false]
  exact decide_eq_decide.mpr (by split <;> omega)

theorem difference_h : (difference 4 a b false k).2.h = decide (a.toNat % 16 < b.toNat % 16) := rfl

end BinaryDigits

theorem bcdValue_sum (h k l m : Nat) :
    10 * ((h + k + (l + m) / 10) % 10) + (l + m) % 10 = (h * 10 + l + (k * 10 + m)) % 100 := by
  omega

section Digits

/-! Two pairs of decimal digits, high `h` and `k`, low `l` and `m`: the half-carry and the carry of the binary operation
and the digits it leaves tell DAA which decimal digit carried or borrowed. -/

variable {h k l m : Nat} (hh : h ≤ 9) (hk : k ≤ 9) (hl : l ≤ 9) (hm : m ≤ 9)

include hh hk hl hm

/-- After an addition each digit whose decimal sum carries is corrected by 6. -/
theorem decimalCorrection_sum :
    decimalCorrection ((l + m) % 16) ((h + k + (l + m) / 16) % 16) (decide (16 ≤ h + k + (l + m) / 16))
        (decide (16 ≤ l + m)) =
      (if 10 ≤ l + m then 0x06 else 0) + if 10 ≤ h + k + (l + m) / 10 then 0x60 else 0 := by
  simp only [decimalCorrection, decide_eq_true_eq, decide_eq_false_iff_not]
  by_cases half : 16 ≤ l + m
  · rw [show (l + m) / 16 = 1 by omega]
    split_ifs <;> omega
  · rw [show (l + m) / 16 = 0 by omega]
    split_ifs <;> omega

/-- The decimal carry is the binary one, or the uncorrected high digit shows it. -/
theorem decimalCarry_sum :
    decimalCarry ((l + m) % 16) ((h + k + (l + m) / 16) % 16) (decide (16 ≤ h + k + (l + m) / 16)) =
      decide (10 ≤ h + k + (l + m) / 10) := by
  unfold decimalCarry
  rw [Bool.eq_iff_iff]
  simp only [Bool.or_eq_true, decide_eq_true_eq, Bool.ite_eq_true_distrib]
  by_cases half : 16 ≤ l + m
  · rw [show (l + m) / 16 = 1 by omega]
    split <;> omega
  · rw [show (l + m) / 16 = 0 by omega]
    split <;> omega

theorem corrected_sum :
    (16 * h + l + (16 * k + m) +
          ((if 10 ≤ l + m then 0x06 else 0) + if 10 ≤ h + k + (l + m) / 10 then 0x60 else 0)) % 256 =
      16 * ((h + k + (l + m) / 10) % 10) + (l + m) % 10 := by
  split_ifs <;> omega

/-- After a subtraction each digit that borrows is corrected by 6. -/
theorem decimalCorrection_difference :
    let borrow := if l < m then 1 else 0
    decimalCorrection ((l + 16 - m) % 16) ((h + 16 - k - borrow) % 16) (decide (h < k + borrow)) (decide (l < m)) =
      (if l < m then 0x06 else 0) + if h < k + borrow then 0x60 else 0 := by
  simp only [decimalCorrection, decide_eq_true_eq, decide_eq_false_iff_not]
  by_cases half : l < m
  · simp only [if_pos half]
    split_ifs <;> omega
  · simp only [if_neg half]
    split_ifs <;> omega

/-- The decimal borrow is the binary one. -/
theorem decimalCarry_difference :
    let borrow := if l < m then 1 else 0
    decimalCarry ((l + 16 - m) % 16) ((h + 16 - k - borrow) % 16) (decide (h < k + borrow)) =
      decide (h < k + borrow) := by
  unfold decimalCarry
  rw [Bool.eq_iff_iff]
  simp only [Bool.or_eq_true, decide_eq_true_eq, Bool.ite_eq_true_distrib]
  by_cases half : l < m
  · simp only [if_pos half]
    split <;> omega
  · simp only [if_neg half]
    split <;> omega

theorem corrected_difference :
    let borrow := if l < m then 1 else 0
    (16 * h + l + 256 - (16 * k + m) + 256 -
          ((if l < m then 0x06 else 0) + if h < k + borrow then 0x60 else 0)) % 256 =
      16 * ((h + 10 - k - borrow) % 10) + (l + 10 - m) % 10 := by
  by_cases half : l < m
  · simp only [if_pos half]
    split_ifs <;> omega
  · simp only [if_neg half]
    split_ifs <;> omega

theorem bcdValue_difference :
    let borrow := if l < m then 1 else 0
    10 * ((h + 10 - k - borrow) % 10) + (l + 10 - m) % 10 = (h * 10 + l + 100 - (k * 10 + m)) % 100 := by
  by_cases half : l < m
  · simp only [if_pos half]
    omega
  · simp only [if_neg half]
    omega

end Digits

theorem mod_add_sub_mod {x d : Nat} (h : d ≤ 256) : (x % 256 + 256 - d) % 256 = (x + 256 - d) % 256 := by
  omega

section PackedOperands

variable {a b : Byte} (ha : IsBcd a) (hb : IsBcd b) (k : Flags)

include ha hb

/-- DAA after an addition of two decimal bytes. -/
theorem decimalAdjust_sum :
    let q := sum 4 a b false k
    let d := decimalAdjust q.1 q.2
    IsBcd d.1 ∧ bcdValue d.1 = (bcdValue a + bcdValue b) % 100 ∧
      d.2.c = decide (100 ≤ bcdValue a + bcdValue b) := by
  intro q d
  obtain ⟨hi_a, lo_a⟩ := ha
  obtain ⟨hi_b, lo_b⟩ := hb
  have digits : d.1.toNat = 16 * ((a.toNat / 16 + b.toNat / 16 + (a.toNat % 16 + b.toNat % 16) / 10) % 10) +
      (a.toNat % 16 + b.toNat % 16) % 10 := by
    refine (decimalAdjust_toNat_of_add q.1 q.2 rfl).trans ?_
    rw [sum_lowDigit, sum_highDigit, sum_c, sum_h, decimalCorrection_sum hi_a hi_b lo_a lo_b, sum_toNat,
      Nat.mod_add_mod, ← corrected_sum hi_a hi_b lo_a lo_b, Nat.div_add_mod, Nat.div_add_mod]
  obtain ⟨bcd, value⟩ := bcd_of_digits digits (Nat.le_of_lt_succ (Nat.mod_lt _ (by decide)))
    (Nat.le_of_lt_succ (Nat.mod_lt _ (by decide)))
  refine ⟨bcd, value.trans (bcdValue_sum ..), ?_⟩
  rw [decimalAdjust_c, sum_lowDigit, sum_highDigit, sum_c, decimalCarry_sum hi_a hi_b lo_a lo_b]
  clear digits value
  unfold bcdValue
  exact decide_eq_decide.mpr (by omega)

/-- DAA after a subtraction of two decimal bytes. -/
theorem decimalAdjust_difference :
    let q := difference 4 a b false k
    let d := decimalAdjust q.1 q.2
    IsBcd d.1 ∧ bcdValue d.1 = (bcdValue a + 100 - bcdValue b) % 100 ∧
      d.2.c = decide (bcdValue a < bcdValue b) := by
  intro q d
  obtain ⟨hi_a, lo_a⟩ := ha
  obtain ⟨hi_b, lo_b⟩ := hb
  have digits : d.1.toNat =
      16 * ((a.toNat / 16 + 10 - b.toNat / 16 - if a.toNat % 16 < b.toNat % 16 then 1 else 0) % 10) +
        (a.toNat % 16 + 10 - b.toNat % 16) % 10 := by
    have bound := decimalCorrection_le (q.1.toNat % 16) (q.1.toNat / 16) q.2.c q.2.h
    refine (decimalAdjust_toNat_of_sub q.1 q.2 rfl).trans ?_
    rw [difference_lowDigit, difference_highDigit, difference_c, difference_h,
      decimalCorrection_difference hi_a hi_b lo_a lo_b] at bound ⊢
    rw [difference_toNat, mod_add_sub_mod (bound.trans (by decide))]
    refine Eq.trans ?_ (corrected_difference hi_a hi_b lo_a lo_b)
    rw [Nat.div_add_mod, Nat.div_add_mod]
  obtain ⟨bcd, value⟩ := bcd_of_digits digits (Nat.le_of_lt_succ (Nat.mod_lt _ (by decide)))
    (Nat.le_of_lt_succ (Nat.mod_lt _ (by decide)))
  refine ⟨bcd, value.trans (bcdValue_difference hi_a hi_b lo_a lo_b), ?_⟩
  rw [decimalAdjust_c, difference_lowDigit, difference_highDigit, difference_c,
    decimalCarry_difference hi_a hi_b lo_a lo_b]
  clear digits value
  unfold bcdValue
  exact decide_eq_decide.mpr (by split <;> omega)

end PackedOperands

end Sys2Proof
end

section
/-! SUPPORT. An operation that leaves a result and flags (spec 42 R189, R205, R214 to R227): its reads keep the core,
its result goes to one register or one address, and F is written last. -/

namespace Sys2Proof.Machine

open Sys2Proof.Rules

/-! ### A state that differs by reads only -/

section Reads

variable {s io : State} (kept : CoreKept s io)

include kept

theorem coreKept_get8 (r : Reg8) : io.get8 r = s.get8 r := by
  obtain ⟨regs, -, -, -⟩ := kept
  exact regs.halves r List.not_mem_nil

theorem coreKept_wide (x : RegX) : io.get16 (RegX.reg16 x) = s.get16 (RegX.reg16 x) := by
  obtain ⟨regs, -, -, -⟩ := kept
  exact regs.wide x List.not_mem_nil

theorem coreKept_hl : io.get16 .hl = s.get16 .hl := by
  have high : hiByte (io.get16 .hl) = hiByte (s.get16 .hl) := coreKept_get8 kept .h
  have low : loByte (io.get16 .hl) = loByte (s.get16 .hl) := coreKept_get8 kept .l
  rw [← joinBytes_hiByte_loByte (io.get16 .hl), high, low, joinBytes_hiByte_loByte]

theorem coreKept_flagsOf : Flags.ofByte io.f = flagsOf s := by
  obtain ⟨-, f, -, -⟩ := kept
  exact congrArg Flags.ofByte f

/-- What follows the reads leaves what it leaves of their state. -/
theorem coreKept_frame {ex8 : List Reg8} {exX : List RegX} {io' t : State} (h : Frame ex8 exX io io' t) :
    Frame ex8 exX s io' t := by
  obtain ⟨regs, -, pc, -⟩ := kept
  obtain ⟨regs', system, pc'⟩ := h
  exact ⟨regs.trans regs', system, pc'.trans pc⟩

theorem coreKept_sameMemory {t : State} (h : t.mem = io.mem) : SameMemory s t := by
  obtain ⟨-, -, -, mem⟩ := kept
  exact fun b => congrArg (Memory.read · b) (h.trans mem)

end Reads

/-! ### Frames of one register write, and of the write of F that ends an operation -/

theorem set8_frame (s : State) (r : Reg8) (v : Byte) : Frame [r] [] s s (s.set8 r v) :=
  ⟨set8_sameRegs s r v, set8_sameSystem s r v, State.set8_pc s r v⟩

theorem set16_frame (s : State) (g : Reg16) (w : Word) : Frame (halvesOf g) (wideOf g) s s (s.set16 g w) :=
  ⟨set16_sameRegs s g w, set16_sameSystem s g w, State.set16_pc s g w⟩

/-- No change leaves all but the registers named, whichever they are. -/
theorem frame_refl (ex8 : List Reg8) (exX : List RegX) (s : State) : Frame ex8 exX s s s :=
  ⟨⟨fun _ _ => rfl, fun _ _ => rfl, ⟨rfl, rfl⟩, ⟨rfl, rfl⟩⟩, .refl s, rfl⟩

theorem Frame.setF {ex8 : List Reg8} {exX : List RegX} {s io t : State} (h : Frame ex8 exX s io t) (f : Byte) :
    Frame ex8 exX s io (t.setF f) := by
  obtain ⟨regs, system, pc⟩ := h
  have regs' := regs.trans (setF_sameRegs t f)
  rw [List.append_nil, List.append_nil] at regs'
  exact ⟨regs', system.trans sameSystem_update, pc⟩

/-- The flags that the end of an operation leaves. -/
theorem flagsOf_setF_setCost (t : State) (f : Byte) (n : Nat) : flagsOf ((t.setF f).setCost n) = Flags.ofByte f :=
  congrArg Flags.ofByte (State.setF_f t f)

/-! ### The shapes of the statements, from the result `q` and its flags -/

section Shapes

variable {s io : State}

/-- An operation that ends in the write of one register, unless it is CP, and of F. -/
theorem intoReg_of_result {rule : Byte → Flags → Byte × Flags} {q : Byte × Byte} {r : Reg8} (kept : CoreKept s io)
    (hq : withFlags q = rule (s.get8 r) (flagsOf s)) (writes : Bool) (n : Nat) :
    IntoReg rule writes r s io (.next (((if writes then io.set8 r q.1 else io).setF q.2).setCost n)) := by
  have flags : Flags.ofByte q.2 = (rule (s.get8 r) (flagsOf s)).2 := congrArg Prod.snd hq
  have ends := fun t => (flagsOf_setF_setCost t q.2 n).trans flags
  cases writes with
  | false =>
    exact ⟨_, rfl, by simpa using coreKept_get8 kept r, ends io,
      (coreKept_frame kept ((frame_refl [r] [] io).setF _)).setCost n, coreKept_sameMemory kept rfl⟩
  | true =>
    exact ⟨_, rfl, by simp [← hq, withFlags], ends _,
      (coreKept_frame kept ((set8_frame io r q.1).setF _)).setCost n,
      coreKept_sameMemory kept (State.set8_mem io r q.1)⟩

/-- An operation that ends in the write of HL, unless it is CP, and of F. -/
theorem intoHl_of_result {rule : Word → Flags → Word × Flags} {q : Word × Byte} (kept : CoreKept s io)
    (hq : withFlags q = rule (s.get16 .hl) (flagsOf s)) (writes : Bool) (n : Nat) :
    IntoHl rule writes s io (.next (((if writes then io.set16 .hl q.1 else io).setF q.2).setCost n)) := by
  have flags : Flags.ofByte q.2 = (rule (s.get16 .hl) (flagsOf s)).2 := congrArg Prod.snd hq
  have ends := fun t => (flagsOf_setF_setCost t q.2 n).trans flags
  cases writes with
  | false =>
    exact ⟨_, rfl, by simpa using coreKept_hl kept, ends io,
      (coreKept_frame kept ((frame_refl [.h, .l] [] io).setF _)).setCost n, coreKept_sameMemory kept rfl⟩
  | true =>
    exact ⟨_, rfl, by simp [← hq, withFlags], ends _,
      (coreKept_frame kept ((set16_frame io .hl q.1).setF _)).setCost n,
      coreKept_sameMemory kept rfl⟩

/-- An operation on a byte of memory: one read, one write to the same address unless it is CP, and F. -/
theorem intoByte_of_result {rule : Byte → Flags → Byte × Flags} {q : Byte × Byte} {m : Mem}
    (hq : withFlags q = rule (read8 (addr m s) s).1 (flagsOf s)) (writes : Bool) (n : Nat) :
    let v := read8 (addr m s) s
    IntoByte rule writes m s (.next (((if writes then write8 (addr m s) q.1 v.2 else v.2).setF q.2).setCost n)) := by
  have kept := read8_coreKept (addr m s) s
  have flags : Flags.ofByte q.2 = (rule (read8 (addr m s) s).1 (flagsOf s)).2 := congrArg Prod.snd hq
  refine ⟨_, rfl, (flagsOf_setF_setCost _ _ n).trans flags, ?_⟩
  cases writes with
  | false => exact ⟨((coreKept_frame kept (frame_refl [] [] _)).setF _).setCost n, coreKept_sameMemory kept rfl⟩
  | true =>
    rw [← hq]
    exact ⟨((coreKept_frame kept (write8_frame _ _ _)).setF _).setCost n, write8_read8_storedByte _ _ _ s⟩

/-- An operation on a word of memory: one read, one write to the same address, and F. -/
theorem intoWord_of_result {rule : Word → Flags → Word × Flags} {q : Word × Byte} {m : Mem}
    (hq : withFlags q = rule (read16 (addr m s) s).1 (flagsOf s)) (n : Nat) :
    IntoWord rule m s (.next (((write16 (addr m s) q.1 (read16 (addr m s) s).2).setF q.2).setCost n)) := by
  have kept := read16_coreKept (addr m s) s
  have flags : Flags.ofByte q.2 = (rule (read16 (addr m s) s).1 (flagsOf s)).2 := congrArg Prod.snd hq
  refine ⟨_, rfl, (flagsOf_setF_setCost _ _ n).trans flags, ?_⟩
  rw [← hq]
  exact ⟨((coreKept_frame kept (write16_frame _ _ _)).setF _).setCost n, write16_read16_storedWord _ _ s⟩

end Shapes

end Sys2Proof.Machine
end

section
/-! SUPPORT. The 8-bit and 16-bit groups, each for any of the eight operations at once (spec 42 R189 to R213). -/

namespace Sys2Proof.Machine

open Sys2Proof.Rules

section Groups

variable {s io : State} (op : AluOp)

theorem intoReg_aluA (kept : CoreKept s io) (b : Byte) (n : Nat) :
    IntoReg (byteRule op · b) op.writes .a s io (.next ((aluA op b io).setCost n)) := by
  refine intoReg_of_result kept ?_ op.writes n
  rw [alu8_eq_byteRule, coreKept_get8 kept, coreKept_flagsOf kept]

theorem intoReg_aluRN (p : Reg8) (b : Byte) (n : Nat) :
    IntoReg (byteRule op · b) op.writes p s s (.next ((aluRN op p b s).setCost n)) :=
  intoReg_of_result (coreKept_refl s) (alu8_eq_byteRule op (s.get8 p) b s.f) op.writes n

theorem intoByte_aluMemN (m : Mem) (b : Byte) (n : Nat) :
    IntoByte (byteRule op · b) op.writes m s (.next ((aluMemN op m b s).setCost n)) := by
  refine intoByte_of_result ?_ op.writes n
  rw [alu8_eq_byteRule, read8_f]
  rfl

theorem intoHl_aluHl (kept : CoreKept s io) (b : Word) (n : Nat) :
    IntoHl (wordRule op · b) op.writes s io (.next ((aluHl op b io).setCost n)) := by
  refine intoHl_of_result kept ?_ op.writes n
  rw [alu16_eq_wordRule, coreKept_hl kept, coreKept_flagsOf kept]

/-! What each row answers; the rows of one operand form are named as the decoder names them (30 R99). -/

theorem exec_rowAluAAtU (u : Byte) (s : State) :
    ∃ n, exec (rowAluAAtU op u) s = .next ((aluAMem op (.dp u) s).setCost n) := by cases op <;> exact ⟨_, rfl⟩

theorem exec_rowAluAN (b : Byte) (s : State) : ∃ n, exec (rowAluAN op b) s = .next ((aluA op b s).setCost n) := by
  cases op <;> exact ⟨_, rfl⟩

theorem exec_rowAluAAt (m : Mem) (s : State) : ∃ n, exec (rowAluAAt op m) s = .next ((aluAMem op m s).setCost n) := by
  cases op <;> exact ⟨_, rfl⟩

theorem exec_rowAluAR (p : Reg8) (s : State) :
    ∃ n, exec (rowAluAR op p) s = .next ((aluA op (s.get8 p) s).setCost n) := by cases op <;> exact ⟨_, rfl⟩

theorem exec_rowAluRN (p : Reg8) (b : Byte) (s : State) :
    ∃ n, exec (rowAluRN op p b) s = .next ((aluRN op p b s).setCost n) := by cases op <;> exact ⟨_, rfl⟩

theorem exec_rowAluAtN (m : Mem) (b : Byte) (s : State) :
    ∃ n, exec (rowAluAtN op m b) s = .next ((aluMemN op m b s).setCost n) := by cases op <;> exact ⟨_, rfl⟩

theorem exec_rowAluHlAtU (u : Byte) (s : State) :
    ∃ n, exec (rowAluHlAtU op u) s = .next ((aluHlMem op (.dp u) s).setCost n) := by cases op <;> exact ⟨_, rfl⟩

theorem exec_rowAluHlW (w : Word) (s : State) : ∃ n, exec (rowAluHlW op w) s = .next ((aluHl op w s).setCost n) := by
  cases op <;> exact ⟨_, rfl⟩

theorem exec_rowAluHlAt (m : Mem) (s : State) :
    ∃ n, exec (rowAluHlAt op m) s = .next ((aluHlMem op m s).setCost n) := by cases op <;> exact ⟨_, rfl⟩

theorem exec_rowAluHlG (p : Reg16) (s : State) :
    ∃ n, exec (rowAluHlG op p) s = .next ((aluHl op (s.get16 p) s).setCost n) := by cases op <;> exact ⟨_, rfl⟩

/-- The six forms of each 8-bit operation (R189). -/
theorem byteForms_row :
    ByteForms (byteRule op) op.writes (rowAluAAtU op) (rowAluAN op) (rowAluAAt op) (rowAluAR op) (rowAluRN op)
      (rowAluAtN op) := by
  refine ⟨fun s u => ?_, fun s b => ?_, fun s m => ?_, fun s p => ?_, fun s p b => ?_, fun s m b _ => ?_⟩
  · obtain ⟨n, answer⟩ := exec_rowAluAAtU op u s
    rw [answer]
    exact intoReg_aluA op (read8_coreKept _ s) _ n
  · obtain ⟨n, answer⟩ := exec_rowAluAN op b s
    rw [answer]
    exact intoReg_aluA op (coreKept_refl s) b n
  · obtain ⟨n, answer⟩ := exec_rowAluAAt op m s
    rw [answer]
    exact intoReg_aluA op (read8_coreKept _ s) _ n
  · obtain ⟨n, answer⟩ := exec_rowAluAR op p s
    rw [answer]
    exact intoReg_aluA op (coreKept_refl s) (s.get8 p) n
  · obtain ⟨n, answer⟩ := exec_rowAluRN op p b s
    rw [answer]
    exact intoReg_aluRN op p b n
  · obtain ⟨n, answer⟩ := exec_rowAluAtN op m b s
    rw [answer]
    exact intoByte_aluMemN op m b n

/-- The four forms of each 16-bit operation (R205). -/
theorem wordForms_row :
    WordForms (wordRule op) op.writes (rowAluHlAtU op) (rowAluHlW op) (rowAluHlAt op) (rowAluHlG op) := by
  refine ⟨fun s u => ?_, fun s w => ?_, fun s m => ?_, fun s p => ?_⟩
  · obtain ⟨n, answer⟩ := exec_rowAluHlAtU op u s
    rw [answer]
    exact intoHl_aluHl op (read16_coreKept _ s) _ n
  · obtain ⟨n, answer⟩ := exec_rowAluHlW op w s
    rw [answer]
    exact intoHl_aluHl op (coreKept_refl s) w n
  · obtain ⟨n, answer⟩ := exec_rowAluHlAt op m s
    rw [answer]
    exact intoHl_aluHl op (read16_coreKept _ s) _ n
  · obtain ⟨n, answer⟩ := exec_rowAluHlG op p s
    rw [answer]
    exact intoHl_aluHl op (coreKept_refl s) (s.get16 p) n

end Groups

end Sys2Proof.Machine

section Statements

open Sys2Proof Sys2Proof.Machine

/-- Settles O40: ADD and ADC are two of the eight 8-bit operations. -/
theorem addBytes : Obligations.AddBytes := ⟨byteForms_row .add, byteForms_row .adc⟩

/-- Settles O41: SUB, SBC and CP are three of the eight 8-bit operations, and CP alone writes no result. -/
theorem subtractBytes : Obligations.SubtractBytes := ⟨byteForms_row .sub, byteForms_row .sbc, byteForms_row .cp⟩

/-- Settles O42: AND, XOR and OR are three of the eight 8-bit operations. -/
theorem logicBytes : Obligations.LogicBytes := ⟨byteForms_row .and, byteForms_row .xor, byteForms_row .or⟩

/-- Settles O43: ADD HL and ADC HL are two of the eight 16-bit operations. -/
theorem addWords : Obligations.AddWords := ⟨wordForms_row .add, wordForms_row .adc⟩

/-- Settles O44: SUB HL, SBC HL and CP HL are three of the eight 16-bit operations, and CP alone writes no result. -/
theorem subtractWords : Obligations.SubtractWords := ⟨wordForms_row .sub, wordForms_row .sbc, wordForms_row .cp⟩

/-- Settles O45: AND HL, XOR HL and OR HL are three of the eight 16-bit operations. -/
theorem logicWords : Obligations.LogicWords := ⟨wordForms_row .and, wordForms_row .xor, wordForms_row .or⟩

end Statements
end

section
/-! SUPPORT. ADD ix, increment and decrement, NEG, CPL, DAA, multiply and divide (spec 42 R214 to R227). -/

namespace Sys2Proof.Machine

open Sys2Proof.Rules

/-! ### ADD ix -/

theorem addXFlags_flags (a b : Word) (f : Byte) :
    Flags.ofByte (addXFlags a b f).2 =
      { Flags.ofByte f with
        h := decide (0xFFF < a.toNat % 4096 + b.toNat % 4096), x := decide (65536 ≤ a.toNat + b.toNat), n := false,
        c := decide (65536 ≤ a.toNat + b.toNat) } := by
  simp only [addXFlags, ofByte_updateFlags]
  rfl

/-- `ADD ix,src` with the source read (R214). -/
theorem addsToIndex_addX {s io : State} (kept : CoreKept s io) (x : RegX) (b : Word) (n : Nat) :
    AddsToIndex x b s io (.next ((addX x b io).setCost n)) := by
  have frame : Frame [] [x] s io (addX x b io) := by
    have written := coreKept_frame kept (set16_frame io (RegX.reg16 x) (addXFlags (io.get16 (RegX.reg16 x)) b io.f).1)
    cases x <;> exact written.setF _
  refine ⟨_, rfl, ?sum, ?flags, frame.setCost n, coreKept_sameMemory kept (State.set16_mem io _ _)⟩
  case sum =>
    rw [← coreKept_wide kept]
    simp [addX, addXFlags]
  case flags =>
    refine (flagsOf_setF_setCost _ _ n).trans ?_
    rw [addXFlags_flags, coreKept_wide kept, coreKept_flagsOf kept]

/-! ### Increment and decrement -/

theorem intoByte_incMem8 (s : State) (m : Mem) (n : Nat) :
    IntoByte (increment 4) true m s (.next ((incMem8 m s).setCost n)) := by
  refine intoByte_of_result ?_ true n
  rw [incFlags_eq_increment, read8_f]
  rfl

theorem intoByte_decMem8 (s : State) (m : Mem) (n : Nat) :
    IntoByte (decrement 4) true m s (.next ((decMem8 m s).setCost n)) := by
  refine intoByte_of_result ?_ true n
  rw [decFlags_eq_decrement, read8_f]
  rfl

section WhenX

/-! INCX and DECX are INC and DEC when X is set, and nothing when it is clear (R221, R222). -/

variable {s : State} (u : Byte)

theorem incx_of_x (x : (flagsOf s).x = true) : (incx u s).1 = incMem8 (.dp u) s := if_pos x

theorem decx_of_x (x : (flagsOf s).x = true) : (decx u s).1 = decMem8 (.dp u) s := if_pos x

theorem incx_of_not_x (x : (flagsOf s).x = false) : (incx u s).1 = s := if_neg (ne_true_of_eq_false x)

theorem decx_of_not_x (x : (flagsOf s).x = false) : (decx u s).1 = s := if_neg (ne_true_of_eq_false x)

end WhenX

theorem nothing_setCost (s : State) (n : Nat) : Nothing s (.next (s.setCost n)) :=
  ⟨_, rfl, rfl, (Frame.refl s).setCost n, fun _ => rfl⟩

theorem exec_incx (u : Byte) (s : State) : ∃ n, exec (.incx u) s = .next ((incx u s).1.setCost n) := ⟨_, rfl⟩

theorem exec_decx (u : Byte) (s : State) : ∃ n, exec (.decx u) s = .next ((decx u s).1.setCost n) := ⟨_, rfl⟩

theorem intoWord_incwMem (s : State) (m : Mem) (n : Nat) :
    IntoWord (increment 12) m s (.next ((incwMem m s).setCost n)) := by
  refine intoWord_of_result ?_ n
  rw [incFlags_eq_increment, read16_f]
  rfl

theorem intoWord_decwMem (s : State) (m : Mem) (n : Nat) :
    IntoWord (decrement 12) m s (.next ((decwMem m s).setCost n)) := by
  refine intoWord_of_result ?_ n
  rw [decFlags_eq_decrement, read16_f]
  rfl

theorem ofNat_toNat_succ (w : Word) : BitVec.ofNat 16 (w.toNat + 1) = w + 1 := by
  apply BitVec.eq_of_toNat_eq
  simp

theorem ofNat_toNat_pred (w : Word) : BitVec.ofNat 16 (w.toNat + 65535) = w - 1 := by
  apply BitVec.eq_of_toNat_eq
  simp [BitVec.toNat_sub, Nat.add_comm]

/-! ### NEG, CPL, DAA -/

theorem intoReg_neg (s : State) (n : Nat) :
    IntoReg (fun a k => difference 4 0 a false k) true .a s s (.next ((neg s).setCost n)) :=
  intoReg_of_result (coreKept_refl s) (subFlags_eq_difference 4 0 (s.get8 .a) false s.f) true n

theorem intoReg_cpl (s : State) (n : Nat) :
    IntoReg (fun a k => (BitVec.ofNat 8 (255 - a.toNat), { k with h := true, n := true })) true .a s s
      (.next ((cpl s).setCost n)) :=
  intoReg_of_result (q := (s.get8 .a ^^^ 0xFF, cplFlags s.f)) (coreKept_refl s) (cplFlags_eq (s.get8 .a) s.f) true n

theorem intoReg_daa (s : State) (n : Nat) : IntoReg decimalAdjust true .a s s (.next ((daa s).setCost n)) :=
  intoReg_of_result (coreKept_refl s) (daaFlags_eq_decimalAdjust (s.get8 .a) s.f) true n

/-- DAA on a known A and known flags. -/
theorem exec_daa {t : State} {a : Byte} {k : Flags} (ha : t.get8 .a = a) (hk : flagsOf t = k) :
    ∃ u, exec .daa t = .next u ∧ u.get8 .a = (decimalAdjust a k).1 ∧ flagsOf u = (decimalAdjust a k).2 := by
  obtain ⟨u, adjusted, result, flags, -⟩ := intoReg_daa t _
  subst ha hk
  exact ⟨u, adjusted, result, flags⟩

/-! ### Multiply and divide -/

/-- `MUL HL,src` with the source read (R226). -/
theorem multiplies_mulBy {s io : State} (kept : CoreKept s io) (v : Byte) (n : Nat) :
    Multiplies v s io (.next ((mulBy v io).setCost n)) := by
  have ⟨_, f, _, _⟩ := kept
  refine ⟨_, rfl, ?product, f, (coreKept_frame kept (set16_frame io .hl _)).setCost n, coreKept_sameMemory kept rfl⟩
  case product =>
    have bound : (s.get8 .l).toNat * v.toNat < 2 ^ 8 * 2 ^ 8 := Nat.mul_lt_mul'' (s.get8 .l).isLt v.isLt
    have loaded : (mulBy v io).get16 .hl = BitVec.ofNat 16 ((s.get8 .l).toNat * v.toNat) := by
      simp [mulBy, coreKept_get8 kept]
    rw [State.setCost_get16, loaded, BitVec.toNat_ofNat]
    exact Nat.mod_eq_of_lt bound

/-- The default `DIV0`, by its halves. -/
theorem hiByte_divZero {c : Params} (h : c.div0 = .spec) (hl : Word) : hiByte (divZero c hl) = loByte hl := by
  simp only [divZero, h, hiByte, loByte]
  ext i hi
  interval_cases i <;> simp

theorem loByte_divZero {c : Params} (h : c.div0 = .spec) (hl : Word) : loByte (divZero c hl) = hiByte hl ^^^ 0xFF := by
  simp only [divZero, h, hiByte, loByte]
  ext i hi
  interval_cases i <;> simp

theorem divZero_of_other {c : Params} {k : Nat} (h : c.div0 = .other k) (hl : Word) :
    divZero c hl = Config.div0Other k hl := by
  simp only [divZero, h]

/-- The frame of a write of HL and F after reads. -/
theorem hl_setF_frame {s io : State} (kept : CoreKept s io) (w : Word) (f : Byte) :
    Frame [.h, .l] [] s io ((io.set16 .hl w).setF f) := (coreKept_frame kept (set16_frame io .hl w)).setF f

theorem divFlags_flags (v : Bool) (f : Byte) : Flags.ofByte (divFlags v f) = { Flags.ofByte f with v := v } :=
  ofByte_updateFlags f _

/-- `DIV HL,src` with the source read (R227). -/
theorem divides_divBy {s io : State} (kept : CoreKept s io) (cfg : io.cfg = s.cfg) (v : Byte) (n : Nat) :
    Divides v s io (.next ((divBy v io).setCost n)) := by
  have hl := coreKept_hl kept
  have flags := coreKept_flagsOf kept
  by_cases zero : v = 0
  · have meaning : divBy v io = (io.set16 .hl (divZero s.cfg (s.get16 .hl))).setF (divFlags true io.f) := by
      rw [divBy, if_pos zero, hl, cfg]
    rw [meaning]
    refine ⟨_, rfl, ?_, (hl_setF_frame kept _ _).setCost n, coreKept_sameMemory kept rfl⟩
    rw [if_pos zero, flagsOf_setF_setCost, divFlags_flags, flags]
    refine ⟨rfl, fun spec => ?_, fun k other => ?_⟩
    · simp [State.set16_get8, hiByte_divZero spec, loByte_divZero spec]
    · simp [divZero_of_other other]
  · have meaning : divBy v io =
        (io.set16 .hl (joinBytes (BitVec.ofNat 8 ((s.get16 .hl).toNat % v.toNat))
          (BitVec.ofNat 8 ((s.get16 .hl).toNat / v.toNat)))).setF
            (divFlags (decide (255 < (s.get16 .hl).toNat / v.toNat)) io.f) := by
      rw [divBy, if_neg zero, hl]
    have positive : 0 < v.toNat := Nat.pos_of_ne_zero fun h => zero (BitVec.eq_of_toNat_eq h)
    have remainder : (s.get16 .hl).toNat % v.toNat < 2 ^ 8 := (Nat.mod_lt _ positive).trans v.isLt
    rw [meaning]
    refine ⟨_, rfl, ?_, (hl_setF_frame kept _ _).setCost n, coreKept_sameMemory kept rfl⟩
    rw [if_neg zero, flagsOf_setF_setCost, divFlags_flags, flags]
    refine ⟨rfl, ?_, ?_⟩
    · simp [State.set16_get8]
    · simpa [State.set16_get8] using remainder

end Sys2Proof.Machine

section Statements

open Sys2Proof Sys2Proof.Machine Sys2Proof.Rules

/-- Settles O46: every form is the sum with a source that was read before. -/
theorem addToIndex : Obligations.AddToIndex := fun s x =>
  ⟨fun w => addsToIndex_addX (coreKept_refl s) x w _, fun p => addsToIndex_addX (coreKept_refl s) x (s.get16 p) _,
    fun m => addsToIndex_addX (read16_coreKept (addr m s) s) x _ _⟩

/-- Settles O47: INC and DEC are one operation on a register or on a byte of memory; INCX and DECX are the latter when X
is set and no change when it is clear. -/
theorem incrementBytes : Obligations.IncrementBytes := by
  have inc := intoByte_incMem8
  have dec := intoByte_decMem8
  refine ⟨fun s r => ⟨?_, ?_⟩, fun s _ =>
    ⟨fun m => ⟨inc s m _, dec s m _⟩, fun u => ⟨inc s (.dp u) _, dec s (.dp u) _⟩, fun u => ?_⟩⟩
  · exact intoReg_of_result (coreKept_refl s) (incFlags_eq_increment 4 (s.get8 r) s.f) true _
  · exact intoReg_of_result (coreKept_refl s) (decFlags_eq_decrement 4 (s.get8 r) s.f) true _
  · obtain ⟨n, incremented⟩ := exec_incx u s
    obtain ⟨k, decremented⟩ := exec_decx u s
    rw [incremented, decremented]
    cases x : (flagsOf s).x with
    | true =>
      rw [if_pos rfl, incx_of_x u x, decx_of_x u x]
      exact ⟨inc s (.dp u) n, dec s (.dp u) k⟩
    | false =>
      rw [if_neg Bool.false_ne_true, incx_of_not_x u x, decx_of_not_x u x]
      exact ⟨nothing_setCost s n, nothing_setCost s k⟩

/-- Settles O48: INC gg and DEC gg load the register with its neighbour; INCW and DECW are one operation on a word of
memory. -/
theorem incrementWords : Obligations.IncrementWords := by
  have inc := intoWord_incwMem
  have dec := intoWord_decwMem
  refine ⟨fun s g => ⟨?_, ?_⟩, fun s _ =>
    ⟨fun m => ⟨inc s m _, dec s m _⟩, fun u => ⟨inc s (.dp u) _, dec s (.dp u) _⟩⟩⟩
  · rw [ofNat_toNat_succ]
    exact loadsWord_done (coreKept_refl s) g (s.get16 g + 1) _ _
  · rw [ofNat_toNat_pred]
    exact loadsWord_done (coreKept_refl s) g (s.get16 g - 1) _ _

/-- Settles O49: each is one operation on A. -/
theorem adjustAccumulator : Obligations.AdjustAccumulator := fun s =>
  ⟨intoReg_neg s _, intoReg_cpl s _, intoReg_daa s _⟩

/-- Settles O50: the sum or difference of O40 and O41 and its flags, adjusted as O49 says, digit by digit. -/
theorem decimalAddition : Obligations.DecimalAddition := by
  intro s b a value isBcd ha hb
  obtain ⟨⟨-, add, -⟩, -⟩ := addBytes
  obtain ⟨⟨-, sub, -⟩, -⟩ := subtractBytes
  obtain ⟨t, added, sum_a, sum_flags, -⟩ := add s b
  obtain ⟨v, subtracted, difference_a, difference_flags, -⟩ := sub s b
  constructor
  · obtain ⟨u, adjusted, result, flags⟩ := exec_daa sum_a sum_flags
    refine ⟨t, u, added, adjusted, ?_⟩
    rw [result, flags]
    exact decimalAdjust_sum ha hb (flagsOf s)
  · obtain ⟨u, adjusted, result, flags⟩ := exec_daa difference_a difference_flags
    refine ⟨v, u, subtracted, adjusted, ?_⟩
    rw [result, flags]
    exact decimalAdjust_difference ha hb (flagsOf s)

/-- Settles O51: every form is a product or a quotient with a source that was read before. -/
theorem multiplyAndDivide : Obligations.MultiplyAndDivide := by
  intro s
  have mul := fun v n => multiplies_mulBy (coreKept_refl s) v n
  have div := fun v n => divides_divBy (coreKept_refl s) rfl v n
  have read := fun m => read8_coreKept (addr m s) s
  exact ⟨fun v => ⟨mul v _, div v _⟩, fun p => ⟨mul (s.get8 p) _, div (s.get8 p) _⟩,
    fun m => ⟨multiplies_mulBy (read m) _ _, divides_divBy (read m) (read8_cfg _ s) _ _⟩⟩

end Statements
end

section
/-! SUPPORT. Results of the shifts and rotates and of the bit instructions: the fields that the model joins are the numbers
of the rules (spec 43 R240, R249 to R253). -/

namespace Sys2Proof

open Sys2Proof.Rules Sys2Proof.Machine

/-! ### Fields of a byte as numbers -/

/-- A field above another is the sum of the two, the higher one scaled. -/
theorem toNat_append_eq_add {m n : Nat} (x : BitVec m) (y : BitVec n) :
    (x ++ y).toNat = x.toNat * 2 ^ n + y.toNat := by
  rw [BitVec.toNat_append, ← Nat.shiftLeft_add_eq_or_of_lt y.isLt, Nat.shiftLeft_eq]

theorem toNat_extractLsb'_eq {w : Nat} (v : BitVec w) (start len : Nat) :
    (v.extractLsb' start len).toNat = v.toNat / 2 ^ start % 2 ^ len := by
  rw [BitVec.extractLsb'_toNat, Nat.shiftRight_eq_div_pow]

theorem toNat_getLsbD (v : Byte) (i : Nat) : (v.getLsbD i).toNat = v.toNat / 2 ^ i % 2 := by
  rw [← BitVec.testBit_toNat, Nat.toNat_testBit]

theorem getLsbD_seven (v : Byte) : v.getLsbD 7 = decide (128 ≤ v.toNat) :=
  (BitVec.msb_eq_getLsbD_last v).symm.trans (BitVec.msb_eq_decide v)

theorem getLsbD_zero (v : Byte) : v.getLsbD 0 = decide (v.toNat % 2 = 1) := by
  simpa using (BitVec.testBit_toNat (i := 0) v).symm

/-- A shift to the left: seven bits move up, and `c` comes in below. -/
theorem shiftLeft_one (v : Byte) (c : Bool) :
    v.extractLsb' 0 7 ++ BitVec.ofBool c = BitVec.ofNat 8 (2 * v.toNat + c.toNat) := by
  apply BitVec.eq_of_toNat_eq
  have := Bool.toNat_le c
  rw [toNat_append_eq_add, toNat_extractLsb'_eq, BitVec.toNat_ofBool, BitVec.toNat_ofNat]
  omega

/-- A shift to the right: seven bits move down, and `c` comes in above. -/
theorem shiftRight_one (v : Byte) (c : Bool) :
    BitVec.ofBool c ++ v.extractLsb' 1 7 = BitVec.ofNat 8 (v.toNat / 2 + 128 * c.toNat) := by
  apply BitVec.eq_of_toNat_eq
  have := Bool.toNat_le c
  have := v.isLt
  rw [toNat_append_eq_add, toNat_extractLsb'_eq, BitVec.toNat_ofBool, BitVec.toNat_ofNat]
  omega

/-! ### Shifts and rotates -/

/-- Each of the eight is a shift by one; the bit that comes in is a bit shifted out, the carry, the sign, or 0 (R240). -/
theorem rotate_eq_shifted (op : RotOp) (v : Byte) (c : Bool) : rotate op v c = shifted op v c := by
  have top : (v.getLsbD 7).toNat = v.toNat / 128 := by
    rw [toNat_getLsbD]
    exact Nat.mod_eq_of_lt (Nat.div_lt_of_lt_mul v.isLt)
  have bottom : (v.getLsbD 0).toNat = v.toNat % 2 := by rw [toNat_getLsbD, Nat.pow_zero, Nat.div_one]
  cases op with
  | rlc | rl | sla | sll =>
    simp only [rotate, shifted, shiftLeft_one, ← getLsbD_seven, top, Bool.toNat_false, Nat.add_zero]
  | rrc | rr | sra | srl =>
    simp only [rotate, shifted, shiftRight_one, ← getLsbD_zero, top, bottom, Bool.toNat_false, Nat.mul_zero, Nat.add_zero]

theorem rotFlags_eq_rotated (op : RotOp) (v f : Byte) :
    withFlags (rotFlags op v f) = rotated op v (Flags.ofByte f) := by
  simp [withFlags, rotFlags, rotated, carryOf, rotate_eq_shifted, parityEven_eq_evenParity,
    BitVec.msb_eq_getLsbD_last, beq_eq_decide]

theorem rotAFlags_eq_rotatedA (op : RotOp) (v f : Byte) :
    withFlags (rotAFlags op v f) = rotatedA op v (Flags.ofByte f) := by
  simp only [withFlags, rotAFlags, rotatedA, carryOf, rotate_eq_shifted, ofByte_updateFlags]

/-! ### Digits -/

/-- RLD: memory takes its own low digit and that of A; A keeps its high digit and takes the high one of memory (R249). -/
theorem rldDigits_toNat (t a : Byte) :
    (rldDigits t a).1.toNat = t.toNat % 16 * 16 + a.toNat % 16 ∧
      (rldDigits t a).2.toNat = a.toNat / 16 * 16 + t.toNat / 16 := by
  have := t.isLt
  have := a.isLt
  simp only [rldDigits, toNat_append_eq_add, toNat_extractLsb'_eq]
  omega

/-- RRD: memory takes the low digit of A and its own high digit; A keeps its high digit and takes the low one of memory
(R250). -/
theorem rrdDigits_toNat (t a : Byte) :
    (rrdDigits t a).1.toNat = a.toNat % 16 * 16 + t.toNat / 16 ∧
      (rrdDigits t a).2.toNat = a.toNat / 16 * 16 + t.toNat % 16 := by
  have := t.isLt
  have := a.isLt
  simp only [rrdDigits, toNat_append_eq_add, toNat_extractLsb'_eq]
  omega

theorem digitFlags_eq (a f : Byte) :
    Flags.ofByte (digitFlags a f) =
      { Flags.ofByte f with
        s := decide (128 ≤ a.toNat), z := decide (a.toNat = 0), h := false, v := evenParity a, n := false } := by
  have isZero : a = 0#8 ↔ a.toNat = 0 := BitVec.toNat_eq
  simp [digitFlags, parityEven_eq_evenParity, BitVec.msb_eq_decide, beq_eq_decide, isZero]

/-! ### One bit of a byte -/

section OneBit

variable (v : Byte) (b : BitNo)

theorem bitMask_eq_twoPow : bitMask b = BitVec.twoPow 8 b.toNat := (BitVec.twoPow_eq 8 b.toNat).symm

theorem bitMask_toNat : (bitMask b).toNat = 2 ^ b.toNat := by
  rw [bitMask_eq_twoPow, BitVec.toNat_twoPow]
  exact Nat.mod_eq_of_lt (Nat.pow_lt_pow_right (by decide) b.isLt)

/-- The mask meets a byte in the bit itself, or in nothing. -/
theorem and_bitMask : v &&& bitMask b = if v.getLsbD b.toNat then bitMask b else 0 := by
  rw [bitMask_eq_twoPow]
  exact BitVec.and_twoPow v b.toNat

/-- A set of a clear bit adds the bit's value. -/
theorem or_bitMask_eq_withBit : v ||| bitMask b = withBit v b := by
  have meet := and_bitMask v b
  rw [withBit]
  split at meet
  next isSet =>
    rw [if_pos isSet, BitVec.ofNat_toNat, BitVec.setWidth_eq, ← meet]
    ext
    simp +contextual
  next isClear =>
    rw [if_neg isClear, ← BitVec.add_eq_or_of_and_eq_zero v _ meet, ← bitMask_toNat, BitVec.ofNat_add]
    simp only [BitVec.ofNat_toNat, BitVec.setWidth_eq]

/-- A reset of a set bit takes the bit's value away. -/
theorem and_not_bitMask_eq_withoutBit : v &&& ~~~bitMask b = withoutBit v b := by
  have meet := and_bitMask v b
  have apart : (v &&& ~~~bitMask b) &&& bitMask b = 0 := by
    ext
    simp +contextual
  have rejoined : v &&& ~~~bitMask b ||| v &&& bitMask b = v := by
    ext i
    simp only [BitVec.getElem_or, BitVec.getElem_and, BitVec.getElem_not]
    cases v[i] <;> cases (bitMask b)[i] <;> rfl
  rw [withoutBit]
  split at meet
  next isSet =>
    rw [meet] at rejoined
    have total := BitVec.toNat_add_of_and_eq_zero apart
    rw [BitVec.add_eq_or_of_and_eq_zero _ _ apart, rejoined] at total
    rw [if_pos isSet, ← bitMask_toNat, total, Nat.add_sub_cancel, BitVec.ofNat_toNat, BitVec.setWidth_eq]
  next isClear =>
    rw [meet] at rejoined
    rw [if_neg isClear, BitVec.ofNat_toNat, BitVec.setWidth_eq]
    simpa using rejoined

end OneBit

end Sys2Proof
end

section
/-! SUPPORT. Shifts, rotates, bit and carry instructions (spec 43 R240 to R257): the end of each, from its accesses and the
value and flags that it writes. -/

namespace Sys2Proof.Machine

open Sys2Proof.Rules

/-! ### Shifts and rotates, each for any of the eight at once -/

theorem intoReg_rotA (op : RotOp) (s : State) (n : Nat) :
    IntoReg (rotatedA op) true .a s s (.next ((rotA op s).setCost n)) :=
  intoReg_of_result (coreKept_refl s) (rotAFlags_eq_rotatedA op (s.get8 .a) s.f) true n

theorem intoReg_rotReg (op : RotOp) (p : Reg8) (s : State) (n : Nat) :
    IntoReg (rotated op) true p s s (.next ((rotReg op p s).setCost n)) :=
  intoReg_of_result (coreKept_refl s) (rotFlags_eq_rotated op (s.get8 p) s.f) true n

theorem intoByte_rotMem (op : RotOp) (m : Mem) (s : State) (n : Nat) :
    IntoByte (rotated op) true m s (.next ((rotMem op m s).setCost n)) := by
  refine intoByte_of_result ?_ true n
  rw [rotFlags_eq_rotated, read8_f]
  rfl

/-! ### Digit rotates: one read, one write to the same address, then A and F -/

section Digits

variable (f : Byte → Byte → Byte × Byte) (m : Mem) (s : State)

/-- The two bytes that a digit rotate writes: the one of memory and A, from those before. -/
def newDigits : Byte × Byte := f (read8 (addr m s) s).1 (s.get8 .a)

theorem digitRotate_eq :
    digitRotate f m s =
      ((write8 (addr m s) (newDigits f m s).1 (read8 (addr m s) s).2).set8 .a (newDigits f m s).2).setF
        (digitFlags (newDigits f m s).2 s.f) := by
  simp [digitRotate, newDigits]

theorem digitRotate_get8_a : (digitRotate f m s).get8 .a = (newDigits f m s).2 := by
  simp [digitRotate_eq]

theorem digitRotate_flagsOf : flagsOf (digitRotate f m s) = Flags.ofByte (digitFlags (newDigits f m s).2 s.f) := by
  rw [digitRotate_eq, flagsOf, State.setF_f]

theorem digitRotate_frame :
    Frame [.a] [] s (write8 (addr m s) (newDigits f m s).1 (read8 (addr m s) s).2) (digitRotate f m s) := by
  have ⟨stored, _, pc⟩ := coreKept_frame (read8_coreKept (addr m s) s) (write8_frame (addr m s) (newDigits f m s).1 _)
  have ⟨loaded, system, pc'⟩ := set8_frame (write8 (addr m s) (newDigits f m s).1 (read8 (addr m s) s).2) .a
    (newDigits f m s).2
  rw [digitRotate_eq]
  exact Frame.setF ⟨stored.trans loaded, system, pc'.trans pc⟩ _

theorem digitRotate_storedByte : StoredByte (addr m s) (newDigits f m s).1 s (digitRotate f m s) := by
  intro b
  rw [digitRotate_eq, State.setF_mem, State.set8_mem]
  exact write8_read8_storedByte _ _ _ s b

/-- A digit rotate with the numbers of its two bytes. -/
theorem digitRotate_setCost {byte acc : Nat}
    (digits : (newDigits f m s).1.toNat = byte ∧ (newDigits f m s).2.toNat = acc) (n : Nat) :
    let u := (digitRotate f m s).setCost n
    (u.get8 .a).toNat = acc ∧
      flagsOf u =
        { flagsOf s with
          s := decide (128 ≤ acc), z := decide (acc = 0), h := false, v := evenParity (BitVec.ofNat 8 acc), n := false } ∧
      Frame [.a] [] s (write8 (addr m s) (BitVec.ofNat 8 byte) (read8 (addr m s) s).2) u ∧
      StoredByte (addr m s) (BitVec.ofNat 8 byte) s u := by
  obtain ⟨rfl, rfl⟩ := digits
  simp only [BitVec.ofNat_toNat, BitVec.setWidth_eq]
  exact ⟨congrArg BitVec.toNat (digitRotate_get8_a f m s), (digitRotate_flagsOf f m s).trans (digitFlags_eq _ s.f),
    (digitRotate_frame f m s).setCost n, digitRotate_storedByte f m s⟩

end Digits

/-! ### BIT and TSET -/

/-- The count of free values is in no frame. -/
theorem Frame.takeFree {ex8 : List Reg8} {exX : List RegX} {s io t : State} (h : Frame ex8 exX s io t) :
    Frame ex8 exX s io t.takeFree := by
  obtain ⟨⟨halves, wide, selectors, shadows⟩, ⟨context, interrupts, timers, banks, outside, cfg⟩, pc⟩ := h
  exact ⟨⟨halves, wide, selectors, shadows⟩, ⟨context, interrupts, timers, banks, outside, cfg⟩, pc⟩

/-- What the rule says of F holds whatever the two open flags are (R251). -/
theorem testsBit_of_bitFlags {v : Byte} {b : BitNo} {s t : State} {fs fv : Bool} (h : t.f = bitFlags v b fs fv s.f) :
    TestsBit v b s t := by
  simp [TestsBit, flagsOf, h, bitFlags]

section TestBit

variable (b : BitNo) (v : Byte) (io : State)

theorem testBit_f :
    (testBit b v io).f =
      bitFlags v b (Config.freeFlag (2 * io.freeCount)) (Config.freeFlag (2 * io.freeCount + 1)) io.f := by
  simp [testBit]

/-- A test after accesses leaves what they leave. -/
theorem Frame.testBit {ex8 : List Reg8} {exX : List RegX} {s t : State} (h : Frame ex8 exX s io t) :
    Frame ex8 exX s io (testBit b v t) :=
  (h.setF _).takeFree

/-- A store and a test do not meet: the order of the two makes no difference. -/
theorem write8_testBit (a : Addr) (w : Byte) : write8 a w (testBit b v io) = testBit b v (write8 a w io) := by
  simp only [testBit, State.setF, write8_takeFree, write8_setAf, write8_f, write8_af, write8_freeCount]

end TestBit

/-- A meaning that reads, as `io` says, and then tests a bit. -/
theorem testBit_done {s io : State} (kept : CoreKept s io) (b : BitNo) (v : Byte) (row dflt : Nat) :
    ∃ t, done (testBit b v io) row dflt = .next t ∧ TestsBit v b s t ∧ Frame [] [] s io t ∧ SameMemory s t := by
  have ⟨_, f, _, _⟩ := kept
  have flags := testBit_f b v io
  rw [f] at flags
  exact ⟨_, rfl, testsBit_of_bitFlags flags, ((coreKept_frame kept (.refl io)).testBit b v).setCost _,
    coreKept_sameMemory kept rfl⟩

theorem tsetReg_done (b : BitNo) (p : Reg8) (s : State) (row dflt : Nat) :
    ∃ t, done (tsetReg b p s) row dflt = .next t ∧ TestsBit (s.get8 p) b s t ∧ t.get8 p = withBit (s.get8 p) b ∧
      Frame [p] [] s s t ∧ SameMemory s t := by
  have ⟨tested, system, pc⟩ := (Frame.refl s).testBit b (s.get8 p)
  have ⟨loaded, system', pc'⟩ := set8_frame (testBit b (s.get8 p) s) p (s.get8 p ||| bitMask b)
  have frame : Frame [p] [] s s (tsetReg b p s) := ⟨tested.trans loaded, system.trans system', pc'.trans pc⟩
  have flags := (State.set8_f (testBit b (s.get8 p) s) p (s.get8 p ||| bitMask b)).trans (testBit_f b (s.get8 p) s)
  refine ⟨_, rfl, testsBit_of_bitFlags flags, ?result, frame.setCost _, ?mem⟩
  case result => simp [tsetReg, or_bitMask_eq_withBit]
  case mem => exact fun a => congrArg (Memory.read · a) (State.set8_mem (testBit b (s.get8 p) s) p _)

theorem tsetMem_done (b : BitNo) (m : Mem) (s : State) (row dflt : Nat) :
    let a := addr m s
    let v := read8 a s
    ∃ t, done (tsetMem b m s) row dflt = .next t ∧ TestsBit v.1 b s t ∧
      Frame [] [] s (write8 a (withBit v.1 b) v.2) t ∧ StoredByte a (withBit v.1 b) s t := by
  intro a v
  have order : tsetMem b m s = testBit b v.1 (write8 a (withBit v.1 b) v.2) := by
    rw [tsetMem, or_bitMask_eq_withBit, write8_testBit]
  have frame := coreKept_frame (read8_coreKept a s) (write8_frame a (withBit v.1 b) v.2)
  have flags := testBit_f b v.1 (write8 a (withBit v.1 b) v.2)
  rw [write8_f, read8_f] at flags
  rw [order]
  exact ⟨_, rfl, testsBit_of_bitFlags flags, (frame.testBit b v.1).setCost _, write8_read8_storedByte a a _ s⟩

/-! ### SET and RES -/

/-- A meaning that stores a byte at the address it has read. -/
theorem storesByte_read8_done (a : Addr) (v : Byte) (s : State) (row dflt : Nat) :
    StoresByte a v s (read8 a s).2 (done (write8 a v (read8 a s).2) row dflt) :=
  ⟨_, rfl, (write8_f a v _).trans (read8_f a s),
    (coreKept_frame (read8_coreKept a s) (write8_frame a v _)).setCost _, write8_read8_storedByte a a v s⟩

theorem loadsByte_setReg (b : BitNo) (p : Reg8) (s : State) (row dflt : Nat) :
    LoadsByte p (withBit (s.get8 p) b) s s (done (setReg b p s) row dflt) := by
  rw [setReg, or_bitMask_eq_withBit]
  exact loadsByte_done (coreKept_refl s) p _ row dflt

theorem loadsByte_resReg (b : BitNo) (p : Reg8) (s : State) (row dflt : Nat) :
    LoadsByte p (withoutBit (s.get8 p) b) s s (done (resReg b p s) row dflt) := by
  rw [resReg, and_not_bitMask_eq_withoutBit]
  exact loadsByte_done (coreKept_refl s) p _ row dflt

theorem storesByte_setMem (b : BitNo) (m : Mem) (s : State) (row dflt : Nat) :
    let v := read8 (addr m s) s
    StoresByte (addr m s) (withBit v.1 b) s v.2 (done (setMem b m s) row dflt) := by
  rw [setMem, or_bitMask_eq_withBit]
  exact storesByte_read8_done (addr m s) _ s row dflt

theorem storesByte_resMem (b : BitNo) (m : Mem) (s : State) (row dflt : Nat) :
    let v := read8 (addr m s) s
    StoresByte (addr m s) (withoutBit v.1 b) s v.2 (done (resMem b m s) row dflt) := by
  rw [resMem, and_not_bitMask_eq_withoutBit]
  exact storesByte_read8_done (addr m s) _ s row dflt

/-! ### RCF, SCF, CCF -/

/-- A meaning that writes F by a rule and does nothing else. -/
theorem updateFlags_done (g : Flags → Flags) (s : State) (row dflt : Nat) :
    ∃ t, done (s.setF (updateFlags s.f g)) row dflt = .next t ∧ flagsOf t = g (flagsOf s) ∧ Frame [] [] s s t ∧
      SameMemory s t :=
  ⟨_, rfl, (flagsOf_setF_setCost s _ _).trans (ofByte_updateFlags s.f g), ((Frame.refl s).setF _).setCost _,
    fun _ => rfl⟩

end Sys2Proof.Machine

section Statements

open Sys2Proof Sys2Proof.Machine Sys2Proof.Rules

/-- Settles O52: the eight are one operation on A. -/
theorem rotateAccumulator : Obligations.RotateAccumulator := fun s =>
  have rot := fun op => intoReg_rotA op s
  ⟨rot .rlc _, rot .rrc _, rot .rl _, rot .rr _, rot .sla _, rot .sra _, rot .sll _, rot .srl _⟩

/-- Settles O53: the eight are one operation on a register or on a byte of memory. -/
theorem rotateOperands : Obligations.RotateOperands := by
  refine ⟨fun s p => ?_, fun s m _ => ?_⟩
  · have rot := fun op => intoReg_rotReg op p s
    exact ⟨rot .rlc _, rot .rrc _, rot .rl _, rot .rr _, rot .sla _, rot .sra _, rot .sll _, rot .srl _⟩
  · have rot := fun op => intoByte_rotMem op m s
    exact ⟨rot .rlc _, rot .rrc _, rot .rl _, rot .rr _, rot .sla _, rot .sra _, rot .sll _, rot .srl _⟩

/-- Settles O54: the two are one exchange of digits, each with its own pair of new bytes. -/
theorem rotateDigits : Obligations.RotateDigits := fun s m _ =>
  ⟨⟨_, rfl, digitRotate_setCost rldDigits m s (rldDigits_toNat _ _) _⟩,
    ⟨_, rfl, digitRotate_setCost rrdDigits m s (rrdDigits_toNat _ _) _⟩⟩

/-- Settles O55: a BIT is a test after at most one read; a TSET is a test and one write, which do not meet. -/
theorem bitTests : Obligations.BitTests :=
  have bitMem := fun s b m => testBit_done (read8_coreKept (addr m s) s) b (read8 (addr m s) s).1
  ⟨fun s b p => ⟨testBit_done (coreKept_refl s) b (s.get8 p) _ _, tsetReg_done b p s _ _⟩,
    fun s b m => bitMem s b m _ _, fun s b u => bitMem s b (.dp u) _ _, fun s b m _ => tsetMem_done b m s _ _⟩

/-- Settles O56: a register form is a load of one register, a memory form one read and one store. -/
theorem setAndReset : Obligations.SetAndReset :=
  ⟨fun s b p => ⟨loadsByte_setReg b p s _ _, loadsByte_resReg b p s _ _⟩, fun s b _ =>
    ⟨fun m => ⟨storesByte_setMem b m s _ _, storesByte_resMem b m s _ _⟩,
      fun u => ⟨storesByte_setMem b (.dp u) s _ _, storesByte_resMem b (.dp u) s _ _⟩⟩⟩

/-- Settles O57: each writes F by its own rule and does nothing else. -/
theorem carryFlag : Obligations.CarryFlag := fun s =>
  ⟨updateFlags_done (fun k => { k with h := false, x := false, n := false, c := false }) s _ _,
    updateFlags_done (fun k => { k with h := false, x := true, n := false, c := true }) s _ _,
    updateFlags_done (fun k => { k with h := k.c, x := !k.c, n := false, c := !k.c }) s _ _⟩

end Statements
end

section
/-! SUPPORT. Jumps, loops and system instructions (spec 44 R276 to R278, R283 to R289). -/

namespace Sys2Proof.Machine

open Sys2Proof.Rules

/-! ### Jumps and loops: register writes that keep F and memory, then PC under a condition -/

@[simp] theorem jumpIf_get8 (c : Bool) (w : Word) (s : State) (r : Reg8) : (jumpIf c w s).get8 r = s.get8 r := by
  cases c with
  | false => rfl
  | true => exact State.setPc_get8 s w r

/-- What a jump under a condition leaves, after register writes that end in `u`. -/
theorem jumpIf_setCost {ex8 : List Reg8} {s u : State} (frame : Frame ex8 [] s s u) (f : u.f = s.f)
    (mem : u.mem = s.mem) (c : Bool) (target : Word) (n : Nat) :
    let t := (jumpIf c target u).setCost n
    t.f = s.f ∧ t.pc = (if c then target else s.pc) ∧ FrameButPc ex8 [] s s t ∧ SameMemory s t := by
  have jumped := frame.jumpIf_setCost c target n
  obtain ⟨-, -, pc⟩ := frame
  exact ⟨(jumpIf_f c target u).trans f, by simp [pc], jumped, fun b => by simp [mem]⟩

theorem jumps_jumpIf (c : Bool) (target : Word) (s : State) (n : Nat) :
    Jumps c target s (.next ((jumpIf c target s).setCost n)) := by
  obtain ⟨f, pc, frame, mem⟩ := jumpIf_setCost (Frame.refl s) rfl rfl c target n
  exact ⟨_, rfl, pc, f, frame, mem⟩

/-- DJNZ counts in B, then jumps if the count goes on (R283). -/
theorem exec_djnz (e : Byte) (s : State) : ∃ n, exec (.djnz e) s =
    .next ((jumpIf (djnz e s).2 (displaced s.pc e.toInt) (s.set8 .b (s.get8 .b - 1))).setCost n) := by
  rw [← add_sext16]
  exact ⟨_, rfl⟩

/-- DJNZ BC counts in BC, then jumps if the count goes on (R284). -/
theorem exec_djnzBc (e : Byte) (s : State) : ∃ n, exec (.djnzBc e) s =
    .next ((jumpIf (djnzBc e s).2 (displaced s.pc e.toInt) (s.set16 .bc (s.get16 .bc - 1))).setCost n) := by
  rw [← add_sext16]
  exact ⟨_, rfl⟩

/-! ### The execution context and I -/

/-- A write of the context alone. -/
theorem context_frame (s : State) (halted afterEi : Bool) :
    let t := { s with halted := halted, afterEi := afterEi }
    Frame [] [] s t t :=
  ⟨sameRegs_update, .refl _, rfl⟩

theorem flagsOf_setF_setI (on : Bool) (s : State) : flagsOf (s.setF (setI on s.f)) = { flagsOf s with i := on } :=
  (congrArg Flags.ofByte (State.setF_f s _)).trans (ofByte_updateFlags s.f _)

theorem flagsOf_di (s : State) : flagsOf (di s) = { flagsOf s with i := false } := flagsOf_setF_setI false s

end Sys2Proof.Machine

section Statements

open Sys2Proof Sys2Proof.Machine Sys2Proof.Rules

/-- Settles O58: a jump is a write of PC under its condition, and a loop is one after its count. -/
theorem jumpsAndLoops : Obligations.JumpsAndLoops := by
  intro s
  refine ⟨fun w => jumps_jumpIf true w s _, fun cc m => ?_, fun cc e => ?_, fun st => ?_, fun e => ?_, fun e => ?_⟩
  · rw [← holds_eq_condition]
    exact jumps_jumpIf (holds cc s) (ea m s) s _
  · rw [← holds_eq_condition, ← add_sext16]
    exact jumps_jumpIf (holds cc s) (rel8 e s) s _
  · rw [← rel16_eq_displaced]
    exact jumps_jumpIf true (rel16 st s) s _
  · obtain ⟨n, answer⟩ := exec_djnz e s
    obtain ⟨f, pc, frame, mem⟩ := jumpIf_setCost (set8_frame s .b (s.get8 .b - 1)) (by simp) (by simp) (djnz e s).2
      (displaced s.pc e.toInt) n
    simp only [djnz_jumps, ite_not] at pc
    exact ⟨_, answer, by simp, f, pc, frame, mem⟩
  · obtain ⟨n, answer⟩ := exec_djnzBc e s
    obtain ⟨f, pc, frame, mem⟩ := jumpIf_setCost (set16_frame s .bc (s.get16 .bc - 1)) (by simp) (by simp)
      (djnzBc e s).2 (displaced s.pc e.toInt) n
    simp only [djnzBc_jumps, ite_not] at pc
    exact ⟨_, answer, by simp, f, pc, frame, mem⟩

/-- Settles O60: three writes of the context, with I for DI, and for SWI the acceptance that the arbiter uses. -/
theorem systemInstructions : Obligations.SystemInstructions := fun s =>
  ⟨nothing_setCost s _,
    ⟨_, rfl, rfl, (context_frame s true s.afterEi).setCost _, fun _ => rfl⟩,
    ⟨_, rfl, flagsOf_di s, ((context_frame s s.halted false).setF _).setCost _, fun _ => rfl⟩,
    ⟨_, rfl, rfl, (context_frame s s.halted true).setCost _, fun _ => rfl⟩,
    ⟨_, rfl, accepted_setCost (accepted_accept 0 s.pc s) _⟩⟩

end Statements
end

section
/-! SUPPORT. The end of an instruction step: the deferred enable, then the time (spec 44 R288, 70 R392 (d), R397). -/

namespace Sys2Proof.Machine

/-- Time leaves `after_ei` and F (60 R342). -/
theorem endStep_enable (s : State) : (endStep s).afterEi = s.afterEi ∧ flagsOf (endStep s) = flagsOf s := by
  obtain ⟨_, _, _, _, _, _, h⟩ := onlyTimers_advanceTimers s.cost s
  rw [endStep, h]
  exact ⟨rfl, rfl⟩

/-- With the deferral due, the end of a step sets I and clears `after_ei`. -/
theorem finish_enables {s : State} (h : s.afterEi = true) :
    (finish true false s).afterEi = false ∧ flagsOf (finish true false s) = { flagsOf s with i := true } := by
  have due : deferredEnable true false s = (s.setAfterEi false).setF (setI true s.f) := by simp [deferredEnable, h]
  obtain ⟨afterEi, flags⟩ := endStep_enable (deferredEnable true false s)
  exact ⟨afterEi.trans (by rw [due]; rfl), flags.trans (by rw [due]; exact flagsOf_setF_setI true s)⟩

/-- After EI, or with `after_ei` clear, the end of a step leaves both. -/
theorem finish_keeps {s : State} {isEi : Bool} (h : isEi = true ∨ s.afterEi = false) (deferred : Bool) :
    (finish deferred isEi s).afterEi = s.afterEi ∧ flagsOf (finish deferred isEi s) = flagsOf s := by
  have notDue : deferredEnable deferred isEi s = s := by
    unfold deferredEnable
    rcases h with h | h <;> simp [h]
  unfold finish
  rw [notDue]
  exact endStep_enable s

end Sys2Proof.Machine

section Statements

open Sys2Proof Sys2Proof.Machine

/-- Settles O12: the fetch keeps the deferral and I, the instruction keeps the deferral unless it is DI, and the end of
the step then acts on it unless the instruction is EI. -/
theorem enableIsDeferred : Obligations.EnableIsDeferred := by
  intro s deferred
  have noSource : checkInterrupts s = none := by simp [checkInterrupts, deferred]
  refine ⟨noSource, fun running i s1 t fetch answer => ?_⟩
  obtain ⟨-, u, executed, ended⟩ := step_of_instr noSource running fetch
  obtain rfl := Host.Outcome.next.inj (answer.symm.trans ended)
  rw [deferred]
  have fetched : Ordinary s s1 := by simpa [fetch] using ordinary_fetchDecode s
  refine ⟨?ei, ?di, fun notEi notDi => ?other⟩
  case ei =>
    rintro rfl
    obtain rfl := Host.Outcome.next.inj executed
    have isEi : decide (Instr.ei = .ei) = true := decide_eq_true rfl
    obtain ⟨afterEi, flags⟩ := finish_keeps (s := (ei s1).setCost _) (.inl isEi) true
    exact ⟨afterEi, (congrArg Flags.i flags).trans fetched.interruptFlag_eq⟩
  case di =>
    rintro rfl
    obtain rfl := Host.Outcome.next.inj executed
    obtain ⟨afterEi, flags⟩ := finish_keeps (s := (di s1).setCost _) (.inr rfl) true
    exact ⟨afterEi, congrArg Flags.i (flags.trans (flagsOf_di s1))⟩
  case other =>
    obtain ⟨-, -, -, -, -, kept, -⟩ := selectorsAndContext i s1 u executed
    have due : u.afterEi = true := ((kept notEi notDi).trans fetched.context.afterEi).trans deferred
    obtain ⟨afterEi, flags⟩ := finish_enables due
    rw [decide_eq_false notEi]
    exact ⟨afterEi, congrArg Flags.i flags⟩

end Statements
end

section
/-! SUPPORT. The frame that an acceptance pushes, byte by byte, and RETI on it (spec 60 R325, R330; 44 R282). -/

namespace Sys2Proof.Machine

/-! ### The addresses of the frame -/

theorem bank0_inj {v w : Word} : bank0 v = bank0 w ↔ v = w := by
  refine ⟨fun h => BitVec.eq_of_toNat_eq ?_, congrArg bank0⟩
  simpa [bank0, bankAddr_toNat] using congrArg BitVec.toNat h

/-- Bytes at unlike distances below one address of the bank are unlike bytes. -/
theorem bank0_sub_inj (w c d : Word) : bank0 (w - c) = bank0 (w - d) ↔ c = d :=
  bank0_inj.trans (sub_right_inj (a := w))

theorem nextAddr_bank0 (w : Word) : nextAddr (bank0 w) = bank0 (w + 1) := by
  apply BitVec.eq_of_toNat_eq
  rw [nextAddr_toNat, bank0, bank0, bankAddr_toNat, bankAddr_toNat, BitVec.toNat_add]
  have := w.isLt
  simp
  omega

/-- The four bytes below SP are at addresses that keep them. -/
def KeepsFrame (s : State) : Prop := ∀ d ∈ ([1, 2, 3, 4] : List Word), s.keepsByte (bank0 (s.sp - d)) = true

/-! ### Reading a word back -/

/-- A word read of bank 0 answers the two bytes there, where both are at addresses that keep them. -/
theorem read16_bank0 {w w' v : Word} {s : State} (next : w + 1 = w') (keepsLow : s.keepsByte (bank0 w) = true)
    (keepsHigh : s.keepsByte (bank0 w') = true) (low : s.mem.read (bank0 w) = loByte v)
    (high : s.mem.read (bank0 w') = hiByte v) : read16 (bank0 w) s = (v, s) := by
  simp only [read16, nextAddr_bank0, next, read8_holdsByte (State.holdsByte_of_keepsByte keepsLow),
    read8_holdsByte (State.holdsByte_of_keepsByte keepsHigh), low, high, joinBytes_hiByte_loByte]

section Return

variable {i : Fin 14} {s : State} (af : pushesAf i s = true) (keeps : KeepsFrame s) (ret : Word)

include af keeps

/-- Memory after an acceptance that pushes AF: AF below PC, and every other byte as before. -/
theorem accept_read (b : Addr) :
    (accept i ret s).mem.read b =
      if b = bank0 (s.sp - 3) then hiByte s.af
      else if b = bank0 (s.sp - 4) then loByte s.af
      else if b = bank0 (s.sp - 1) then hiByte ret
      else if b = bank0 (s.sp - 2) then loByte ret
      else s.mem.read b := by
  have stored := accept_stored i ret s
  simp only [af, if_true] at stored
  have afHigh : s.sp - 4 + 1 = s.sp - 3 := by bv_omega
  have retHigh : s.sp - 2 + 1 = s.sp - 1 := by bv_omega
  have kept : ∀ a, (write16 (bank0 (s.sp - 2)) ret s).keepsByte a = s.keepsByte a := fun a => by simp [write16]
  rw [stored b, write16_read]
  simp only [nextAddr_bank0, afHigh, retHigh, kept, keeps 1 (by decide), keeps 2 (by decide), keeps 3 (by decide),
    keeps 4 (by decide), and_true]

/-- RETI after an acceptance that pushes AF takes both words of the frame back (R330). -/
theorem returnFromInterrupt_accept :
    returnFromInterrupt (accept i ret s) = (((accept i ret s).setAf s.af).setSp s.sp).setPc ret := by
  have kept : ∀ a, (accept i ret s).keepsByte a = s.keepsByte a := by
    obtain ⟨-, -, -, -, -, -, -, -, cfg⟩ := accept_fields i ret s
    simp [State.keepsByte, State.memKind, cfg]
  have readAf : read16 (bank0 (s.sp - 4)) (accept i ret s) = (s.af, accept i ret s) :=
    read16_bank0 (w' := s.sp - 3) (by bv_omega) ((kept _).trans (keeps 4 (by decide)))
      ((kept _).trans (keeps 3 (by decide))) (by simp [accept_read af keeps, bank0_sub_inj])
      (by simp [accept_read af keeps])
  have readRet : read16 (bank0 (s.sp - 2)) (accept i ret s) = (ret, accept i ret s) :=
    read16_bank0 (w' := s.sp - 1) (by bv_omega) ((kept _).trans (keeps 2 (by decide)))
      ((kept _).trans (keeps 1 (by decide))) (by simp [accept_read af keeps, bank0_sub_inj])
      (by simp [accept_read af keeps, bank0_sub_inj])
  have sp : (accept i ret s).sp = s.sp - 4 := by simp [accept_sp, af]
  have second : s.sp - 4 + 2 = s.sp - 2 := by bv_omega
  have restored : s.sp - 4 + 4 = s.sp := by bv_omega
  simp only [returnFromInterrupt_eq, sp, readAf, second, readRet, restored]

end Return

/-- Registers that were written but hold what they held are as before. -/
theorem SameRegs.restored {ex8 : List Reg8} {exX : List RegX} {s t : State} (h : SameRegs ex8 exX s t)
    (halves : ∀ r ∈ ex8, t.get8 r = s.get8 r)
    (wide : ∀ x ∈ exX, t.get16 (RegX.reg16 x) = s.get16 (RegX.reg16 x)) : SameRegs [] [] s t where
  halves r _ := if hr : r ∈ ex8 then halves r hr else h.halves r hr
  wide x _ := if hx : x ∈ exX then wide x hx else h.wide x hx
  selectors := h.selectors
  shadows := h.shadows

theorem exec_reti (s : State) : ∃ n, exec .reti s = .next ((returnFromInterrupt s).setCost n) := ⟨_, rfl⟩

/-- With AF and SP put back, an acceptance leaves every register as it was. -/
theorem accept_restored_sameRegs (i : Fin 14) (ret w : Word) (s : State) :
    SameRegs [] [] s ((((accept i ret s).setAf s.af).setSp s.sp).setPc w) := by
  have written := ((accept_sameRegs i ret s).trans (setAf_sameRegs _ s.af)).trans (setSp_sameRegs s.sp _)
  exact (written.setPc w).restored (by simp [State.get8]) (by simp [State.get16, RegX.reg16])

end Sys2Proof.Machine

section Statements

open Sys2Proof Sys2Proof.Machine

/-- Settles O16: RETI reads back the two words that the acceptance stored, and writes no memory. -/
theorem returnUndoesAcceptance : Obligations.ReturnUndoesAcceptance := by
  intro s i source _ keeps1 keeps2 keeps3 keeps4
  have af : pushesAf i s = true := by simpa [pushesAf] using source
  have keeps : KeepsFrame s := by simpa [KeepsFrame] using ⟨keeps1, keeps2, keeps3, keeps4⟩
  obtain ⟨n, answer⟩ := exec_reti (accept i s.pc s)
  rw [returnFromInterrupt_accept af keeps] at answer
  refine ⟨_, answer, rfl, by simp, rfl, (accept_restored_sameRegs i s.pc s.pc s).setCost n, fun b h1 h2 h3 h4 => ?_⟩
  exact (accept_read af keeps s.pc b).trans (by simp only [h1, h2, h3, h4, if_false])

end Statements
end

section
/-! SUPPORT. Requests, lines and arbitration (spec 60 R314 to R322). -/

namespace Sys2Proof.Machine

/-! ### Requests and lines -/

/-- The bit of one source. -/
theorem sourceBit_getLsbD {i : Nat} (hi : i < 14) (j : Nat) : (1#14 <<< i).getLsbD j = decide (j = i) := by
  have bit := BitVec.getLsbD_twoPow (w := 14) i j
  rwa [decide_eq_true hi, Bool.true_and, decide_eq_decide.mpr eq_comm] at bit

/-- A raised request is one more bit of the latches (R316). -/
theorem raiseRequest_getLsbD {i : Nat} (hi : i < 14) (s : State) (j : Nat) :
    (raiseRequest i s).pending.getLsbD j = (s.pending.getLsbD j || decide (j = i)) := by
  rw [raiseRequest, State.setPending_pending, BitVec.getLsbD_or, sourceBit_getLsbD hi]

/-- `set_irq_line` replaces lines and latches only. -/
theorem setIrqLine_state (i : Fin 14) (level : Bool) (s : State) :
    ∃ l p, setIrqLine i level s = { s with line := l, pending := p } := by
  unfold setIrqLine
  split
  · exact ⟨s.line, s.pending, rfl⟩
  · dsimp only
    split
    · exact ⟨_, _, rfl⟩
    · exact ⟨_, s.pending, rfl⟩

/-- The level of the line is recorded; source 0 has no line (R314, R318). -/
theorem setIrqLine_line (i : Fin 14) (level : Bool) (s : State) (j : Nat) :
    (setIrqLine i level s).line.getLsbD j = if j = i.val ∧ j ≠ 0 then level else s.line.getLsbD j := by
  by_cases h0 : i.val = 0
  · have absent : ¬(j = i.val ∧ j ≠ 0) := by omega
    rw [setIrqLine, if_pos h0, if_neg absent]
  · have line : (setIrqLine i level s).line =
        if level then s.line ||| (1#14 <<< i.val) else s.line &&& ~~~(1#14 <<< i.val) := by
      rw [setIrqLine, if_neg h0]
      dsimp only
      split <;> rfl
    have present : (j = i.val ∧ j ≠ 0) ↔ j = i.val := by omega
    rw [line, if_congr present rfl rfl]
    cases level with
    | true =>
      rw [if_pos rfl, BitVec.getLsbD_or, sourceBit_getLsbD i.isLt]
      by_cases hj : j = i.val <;> simp [hj]
    | false =>
      rw [if_neg Bool.false_ne_true, BitVec.getLsbD_and, BitVec.getLsbD_not, sourceBit_getLsbD i.isLt]
      by_cases hj : j < 14
      · by_cases hi : j = i.val <;> simp [hj, hi]
      · simp [BitVec.getLsbD_of_ge _ _ (Nat.le_of_not_lt hj)]

/-- A rising edge of an edge-triggered source latches its request (R314, R316). -/
theorem setIrqLine_pending (i : Fin 14) (level : Bool) (s : State) (j : Nat) :
    (setIrqLine i level s).pending.getLsbD j =
      (s.pending.getLsbD j || decide (j = i.val ∧ j ≠ 0 ∧ j ≠ 3 ∧ s.line.getLsbD j = false ∧ level = true)) := by
  unfold setIrqLine
  split
  next h0 => simp [show ¬(j = i.val ∧ j ≠ 0 ∧ j ≠ 3 ∧ s.line.getLsbD j = false ∧ level = true) by omega]
  next h0 =>
    dsimp only
    split
    next rising =>
      rw [raiseRequest_getLsbD i.isLt]
      by_cases hj : j = i.val
      · subst hj
        obtain ⟨edge, low, high⟩ := rising
        rw [decide_eq_true rfl, decide_eq_true ⟨rfl, h0, edge, low, high⟩]
      · simp [hj]
    next noEdge =>
      have none : ¬(j = i.val ∧ j ≠ 0 ∧ j ≠ 3 ∧ s.line.getLsbD j = false ∧ level = true) := by
        rintro ⟨rfl, -, edge⟩
        exact noEdge edge
      rw [decide_eq_false none, Bool.or_false]

/-! ### Arbitration -/

/-- The arbitrated sources are 1 to 13 in that order (R312). -/
theorem sources_getElem {k : Nat} (hk : k < sources.length) : sources[k].val = k + 1 := by
  revert k
  decide

/-- The first of the sources with a property is the one of the lowest number from 1 on (R322). -/
theorem sources_find?_eq_some {p : Fin 14 → Bool} {i : Fin 14} :
    sources.find? p = some i ↔ p i = true ∧ 1 ≤ i.val ∧ ∀ j : Fin 14, 1 ≤ j.val → j < i → p j = false := by
  have length : sources.length = 13 := rfl
  have at_pred {j : Fin 14} (hj : 1 ≤ j.val) (h : j.val - 1 < sources.length) : sources[j.val - 1] = j :=
    Fin.ext (by rw [sources_getElem]; omega)
  rw [List.find?_eq_some_iff_getElem]
  refine and_congr_right fun _ => ⟨?_, ?_⟩
  · rintro ⟨k, hk, rfl, before⟩
    have number := sources_getElem hk
    refine ⟨by omega, fun j hj hlt => ?_⟩
    have hlt : j.val < sources[k].val := hlt
    have none := before (j.val - 1) (by omega)
    rwa [at_pred hj, Bool.not_eq_true'] at none
  · rintro ⟨positive, before⟩
    refine ⟨i.val - 1, by omega, at_pred positive _, fun k hk => ?_⟩
    have number := sources_getElem (k := k) (by omega)
    rw [Bool.not_eq_true']
    exact before _ (by omega) (Fin.lt_def.mpr (by omega))

/-- A source from 1 on is eligible as R322 says, with the request of R315. -/
theorem eligible_iff {s : State} {i : Fin 14} (hi : 1 ≤ i.val) :
    eligible s i = true ↔ (if i.val = 3 then s.line.getLsbD 3 else s.pending.getLsbD i.val) = true ∧
      (i.val < 3 ∨ s.mask.getLsbD i.val = true) := by
  have latched : decide (i.val ≠ 0) = true := decide_eq_true (by omega)
  rw [eligible, req_getLsbD, latched, Bool.and_true]
  simp only [Bool.and_eq_true, Bool.or_eq_true, decide_eq_true_eq]

end Sys2Proof.Machine

section Statements

open Sys2Proof Sys2Proof.Machine

/-- Settles O20: the level and the latch bit by bit, and nothing but lines and latches is replaced. -/
theorem lineSetsRequest : Obligations.LineSetsRequest := by
  intro i level s
  refine ⟨setIrqLine_line i level s, setIrqLine_pending i level s, ?_⟩
  obtain ⟨l, p, h⟩ := setIrqLine_state i level s
  rw [h]
  exact ⟨sameRegs_update, rfl, rfl, rfl, .refl _⟩

/-- Settles O14: the arbiter finds the first eligible source, and only with I set and not deferred. -/
theorem arbitrationPicksFirst : Obligations.ArbitrationPicksFirst := by
  intro s i asks
  have asks_iff {j : Fin 14} (hj : 1 ≤ j.val) : eligible s j = true ↔ asks j.val := eligible_iff hj
  have enabled : (Flags.ofByte s.f).i && !s.afterEi ↔ (flagsOf s).i = true ∧ s.afterEi = false := by
    simp [flagsOf]
  unfold checkInterrupts
  rw [if_congr enabled rfl rfl, Option.ite_none_right_eq_some, sources_find?_eq_some, and_assoc]
  refine and_congr_right fun _ => and_congr_right fun _ => ?_
  rw [and_left_comm]
  refine and_congr_right fun positive => and_congr (asks_iff positive) ⟨?_, ?_⟩
  · intro before j hj hlt asked
    have none := before ⟨j, hlt.trans i.isLt⟩ hj hlt
    exact Bool.false_ne_true (none.symm.trans ((asks_iff hj).mpr asked))
  · intro before j hj hlt
    exact Bool.eq_false_iff.mpr fun asking => before j.val hj hlt ((asks_iff hj).mp asking)

end Statements
end

section
/-! SUPPORT. The cost of every instruction and every step (spec 60 R310, 70 R395), and the idle step (60 R360). -/

namespace Sys2Proof.Machine

/-- The meaning answered a next state at a cost of at least one cycle. -/
def CostsCycles (o : Res) : Prop := ∃ t, o = .next t ∧ 1 ≤ t.cost

theorem costsCycles_done {s : State} {row dflt : Nat} (h : 1 ≤ dflt) : CostsCycles (done s row dflt) :=
  ⟨_, rfl, cycles_pos s.cfg row true h⟩

theorem costsCycles_doneIf {r : State × Bool} {row ifTrue ifFalse : Nat} (ht : 1 ≤ ifTrue) (hf : 1 ≤ ifFalse) :
    CostsCycles (doneIf r row ifTrue ifFalse) :=
  ⟨_, rfl, cycles_pos r.1.cfg row r.2 (by split <;> assumption)⟩

/-- Every row of the table costs a cycle or more: first the rows with two costs, then those with one (R395). -/
theorem exec_costsCycles (i : Instr) (s : State) : CostsCycles (exec i s) := by
  cases i with
  | ldir | lddr | cpir | cpdr | djnz | djnzBc | jr | jpCc | callCc | retCc | incx | decx =>
    exact costsCycles_doneIf (by omega) (by omega)
  | _ => exact costsCycles_done (by omega)

/-- Time reports no cost of its own. -/
theorem endStep_cost (s : State) : (endStep s).cost = s.cost := by
  obtain ⟨_, _, _, _, _, _, h⟩ := onlyTimers_advanceTimers s.cost s
  rw [endStep, h]

/-- The end of an instruction step keeps the cost that the instruction reported. -/
theorem finish_cost (deferred isEi : Bool) (s : State) : (finish deferred isEi s).cost = s.cost := by
  rw [finish, endStep_cost, deferredEnable]
  split <;> rfl

/-- An instruction step answers, and costs a cycle or more. -/
theorem stepInstr_costsCycles (s : State) : CostsCycles (stepInstr s) := by
  unfold stepInstr
  split
  next s1 _ => exact ⟨_, rfl, (finish_cost _ _ _).symm ▸ s1.cfg.unknownCost.property⟩
  next i s1 _ =>
    obtain ⟨t, answer, cost⟩ := exec_costsCycles i s1
    rw [answer]
    exact ⟨_, rfl, (finish_cost _ _ _).symm ▸ cost⟩

/-- So does every step: an acceptance, an idle cycle, an instruction (70 R392). -/
theorem step_costsCycles (s : State) : CostsCycles (step s) := by
  unfold step
  split
  · exact ⟨_, rfl, (endStep_cost _).symm ▸ s.cfg.intCost.property⟩
  · split
    · exact ⟨_, rfl, (endStep_cost _).symm ▸ le_refl 1⟩
    · exact stepInstr_costsCycles s

/-- A step of a halted core with nothing to accept is one cycle of the timers (R360). -/
theorem step_of_halted {s : State} (halted : s.halted = true) (h : checkInterrupts s = none) :
    step s = .next (advanceCycle (s.setCost 1)) := by
  simp only [step, h, halted, if_true]
  rfl

end Sys2Proof.Machine

section Statements

open Sys2Proof Sys2Proof.Machine

/-- Settles O11, from the costs of the rows and of the three kinds of step. -/
theorem everyStepCompletes : Obligations.EveryStepCompletes := by
  refine ⟨exec_costsCycles, fun s => ?_⟩
  obtain ⟨t, answer, cost⟩ := step_costsCycles s
  exact ⟨⟨t, answer⟩, fun u hu => Host.Outcome.next.inj (answer.symm.trans hu) ▸ cost⟩

/-- Settles O13: the idle step is a cycle of the timers alone, and the other step is the acceptance. -/
theorem haltedCoreIdles : Obligations.HaltedCoreIdles := by
  intro s halted
  refine ⟨fun noSource => ⟨_, step_of_halted halted noSource, rfl, ?_⟩, fun i source => ?_⟩
  · obtain ⟨_, _, _, _, _, _, idle⟩ := onlyTimers_advanceCycle (s.setCost 1)
    rw [idle]
    exact ⟨rfl, rfl, halted, rfl, rfl, sameRegs_update, fun _ => rfl, rfl⟩
  · obtain ⟨u, accepted, -, answer⟩ := acceptanceIsAStep s i source
    obtain ⟨-, -, -, awake, -⟩ := id accepted
    obtain ⟨_, _, _, _, _, _, time⟩ := onlyTimers_advanceTimers s.cfg.intCost.val u
    refine ⟨u, _, accepted, answer, rfl, ?_⟩
    rw [time]
    exact awake

end Statements
end

section
/-! SUPPORT. The count event of a timer as numbers, and what the count events and the cycles of each timer change (spec
60 R342 to R349). -/

namespace Sys2Proof.Machine

open Sys2Proof.Rules

/-! ### The count event (R345) -/

/-- The count, the run flag and whether the event is terminal, for a timer of any width. -/
def countEvent {w : Nat} (mode : BitVec 2) (count reload : BitVec w) (run : Bool) : BitVec w × Bool × Bool :=
  if mode = 2 then if count + 1 = reload then (0, run, true) else (count + 1, run, false)
  else if mode = 3 then (count, run, false)
  else if count = 0 then (reload, run && mode != 1, true)
  else (count - 1, run, false)

theorem tick8_eq (u : Timer8) :
    let r := countEvent u.mode u.count u.reload u.run
    tick8 u = ({ u with count := r.1, run := r.2.1 }, r.2.2) := by
  unfold tick8 countEvent
  split_ifs <;> rfl

theorem tick16_eq (u : Timer16) :
    let r := countEvent u.mode u.count u.reload u.run
    tick16 u = ({ u with count := r.1, run := r.2.1 }, r.2.2) := by
  unfold tick16 countEvent
  split_ifs <;> rfl

/-- The count event in numbers is the rule's. -/
theorem counted_eq {w : Nat} (mode : BitVec 2) (count reload : BitVec w) (run : Bool) :
    counted w mode.toNat count.toNat reload.toNat run =
      ((countEvent mode count reload run).1.toNat, (countEvent mode count reload run).2) := by
  have up : (count + 1).toNat = (count.toNat + 1) % 2 ^ w := by simp [BitVec.toNat_add]
  have mode1 : decide (mode.toNat ≠ 1) = (mode != 1) := by
    have same : mode.toNat = 1 ↔ mode = 1 := BitVec.toNat_inj (y := 1)
    rw [bne, beq_eq_decide, decide_not, decide_eq_decide.mpr same]
  have mode2 : mode.toNat = 2 ↔ mode = 2 := BitVec.toNat_inj (y := 2)
  have mode3 : mode.toNat = 3 ↔ mode = 3 := BitVec.toNat_inj (y := 3)
  have wraps : (count.toNat + 1) % 2 ^ w = reload.toNat ↔ count + 1 = reload := by rw [← up, BitVec.toNat_inj]
  have zero : count.toNat = 0 ↔ count = 0 := by simp [← BitVec.toNat_inj]
  have down : count ≠ 0 → (count - 1).toNat = count.toNat - 1 := fun h => by
    have positive := mt zero.mp h
    have room : 1 < 2 ^ w := by have := count.isLt; omega
    have one : (1 : BitVec w).toNat = 1 := Nat.mod_eq_of_lt room
    rw [BitVec.toNat_sub_of_le (BitVec.le_def.mpr (by rw [one]; omega)), one]
  simp only [counted, countEvent, mode1, mode2, mode3, wraps, zero]
  split_ifs with h2 hw h3 h0
  · rfl
  · rw [up]
  · rfl
  · rfl
  · rw [down h0]

/-! ### Count events of timer 4 -/

@[simp] theorem raiseRequest_timer8 (i : Nat) (s : State) (j : Fin 4) : (raiseRequest i s).timer8 j = s.timer8 j := rfl

@[simp] theorem raiseRequest_t4 (i : Nat) (s : State) : (raiseRequest i s).t4 = s.t4 := rfl

@[simp] theorem State.setTimer16_timer8 (s : State) (u : Timer16) (j : Fin 4) :
    (s.setTimer16 u).timer8 j = s.timer8 j := rfl

@[simp] theorem tickTimer16_t4 (s : State) : (tickTimer16 s).t4 = (tick16 s.t4).1 := by
  unfold tickTimer16
  dsimp only
  split <;> rfl

@[simp] theorem tickTimer16_timer8 (s : State) (j : Fin 4) : (tickTimer16 s).timer8 j = s.timer8 j := by
  unfold tickTimer16
  dsimp only
  split <;> rfl

/-- A terminal event of timer 4 sets request 8, and a count event touches no other. -/
theorem tickTimer16_pending (s : State) (j : Nat) :
    (tickTimer16 s).pending.getLsbD j = (s.pending.getLsbD j || (decide (j = 8) && (tick16 s.t4).2)) := by
  unfold tickTimer16
  dsimp only
  split
  next terminal => rw [raiseRequest_getLsbD (by omega), terminal, Bool.and_true, State.setTimer16_pending]
  next counting => rw [Bool.eq_false_iff.mpr counting, Bool.and_false, Bool.or_false, State.setTimer16_pending]

/-- A change of timers and latches alone is one in the words of the rules. -/
theorem OnlyTimers.timersOnly {s t : State} (h : OnlyTimers s t) : TimersOnly s t := by
  obtain ⟨_, _, _, _, _, _, rfl⟩ := h
  exact ⟨coreKept_update, .refl _⟩

/-- Timer 4 with its counted value, and request 8 set by a terminal event, is a count event of timer 4. -/
theorem countsWide_of_tick {s t : State} (timer : t.t4 = (tick16 s.t4).1)
    (request : t.pending.getLsbD 8 = (s.pending.getLsbD 8 || (tick16 s.t4).2)) : CountsWide s t := by
  rw [tick16_eq] at timer request
  simp only [CountsWide, counted_eq, timer, request, and_self]

theorem countsWideOnly_tickTimer16 (s : State) : CountsWideOnly s (tickTimer16 s) := by
  refine ⟨countsWide_of_tick (tickTimer16_t4 s) (tickTimer16_pending s 8), (onlyTimers_tickTimer16 s).timersOnly,
    tickTimer16_timer8 s, fun j hj => ?_⟩
  rw [tickTimer16_pending, decide_eq_false hj, Bool.false_and, Bool.or_false]

/-! ### Count events of timers 0 to 3, and the chain (R349) -/

/-- Timer 4 counts the terminal events of timer i. -/
def Chained (i : Fin 4) (s : State) : Prop :=
  s.t4.run = true ∧ ((s.t4.clk.toNat = 4 ∧ i = s.cfg.chainA) ∨ (s.t4.clk.toNat = 5 ∧ i = s.cfg.chainB))

/-- The model's test of the chain. -/
theorem chained_iff (i : Fin 4) (s : State) :
    s.t4.run && ((s.t4.clk == 4 && i == s.cfg.chainA) || (s.t4.clk == 5 && i == s.cfg.chainB)) ↔ Chained i s := by
  have clk4 : s.t4.clk.toNat = 4 ↔ s.t4.clk = 4 := BitVec.toNat_inj (y := 4)
  have clk5 : s.t4.clk.toNat = 5 ↔ s.t4.clk = 5 := BitVec.toNat_inj (y := 5)
  simp [Chained, clk4, clk5]

theorem chain_of_chained {i : Fin 4} {s : State} (h : Chained i s) : chain i s = tickTimer16 s :=
  if_pos ((chained_iff i s).mpr h)

theorem chain_of_not_chained {i : Fin 4} {s : State} (h : ¬Chained i s) : chain i s = s :=
  if_neg (mt (chained_iff i s).mp h)

/-- The state in which a terminal event of timer i reaches the chain. -/
def terminated (i : Fin 4) (s : State) : State := raiseRequest (4 + i.val) (s.setTimer8 i (tick8 (s.timer8 i)).1)

theorem terminated_pending (i : Fin 4) (s : State) (j : Nat) :
    (terminated i s).pending.getLsbD j = (s.pending.getLsbD j || decide (j = 4 + i.val)) :=
  raiseRequest_getLsbD (by omega) _ j

theorem terminated_timer8 (i : Fin 4) (s : State) (j : Fin 4) :
    (terminated i s).timer8 j = if j = i then (tick8 (s.timer8 i)).1 else s.timer8 j := by
  rw [terminated, raiseRequest_timer8, State.setTimer8_timer8]

theorem tickTimer8_counting {i : Fin 4} {s : State} (h : (tick8 (s.timer8 i)).2 = false) :
    tickTimer8 i s = s.setTimer8 i (tick8 (s.timer8 i)).1 := by
  simp only [tickTimer8, h, Bool.false_eq_true, if_false]

theorem tickTimer8_terminal {i : Fin 4} {s : State} (h : (tick8 (s.timer8 i)).2 = true) :
    tickTimer8 i s = chain i (terminated i s) := by
  simp only [tickTimer8, h, if_true, terminated]

theorem chain_timer8 (i : Fin 4) (s : State) (j : Fin 4) : (chain i s).timer8 j = s.timer8 j := by
  unfold chain
  split
  · exact tickTimer16_timer8 s j
  · rfl

/-- A chained event touches no request but 8. -/
theorem chain_pending (i : Fin 4) (s : State) {j : Nat} (hj : j ≠ 8) :
    (chain i s).pending.getLsbD j = s.pending.getLsbD j := by
  unfold chain
  split
  · rw [tickTimer16_pending, decide_eq_false hj, Bool.false_and, Bool.or_false]
  · rfl

theorem tickTimer8_timer8 (i : Fin 4) (s : State) (j : Fin 4) :
    (tickTimer8 i s).timer8 j = if j = i then (tick8 (s.timer8 i)).1 else s.timer8 j := by
  cases terminal : (tick8 (s.timer8 i)).2 with
  | true => rw [tickTimer8_terminal terminal, chain_timer8, terminated_timer8]
  | false => rw [tickTimer8_counting terminal, State.setTimer8_timer8]

theorem tickTimer8_pending (i : Fin 4) (s : State) {j : Nat} (hj : j ≠ 8) :
    (tickTimer8 i s).pending.getLsbD j =
      (s.pending.getLsbD j || (decide (j = 4 + i.val) && (tick8 (s.timer8 i)).2)) := by
  cases terminal : (tick8 (s.timer8 i)).2 with
  | true => rw [tickTimer8_terminal terminal, chain_pending i _ hj, terminated_pending, Bool.and_true]
  | false => rw [tickTimer8_counting terminal, State.setTimer8_pending, Bool.and_false, Bool.or_false]

/-- A terminal event of a chained timer is a count event of timer 4 in the same cycle. -/
theorem tickTimer8_chained {i : Fin 4} {s : State} (terminal : (tick8 (s.timer8 i)).2 = true) (h : Chained i s) :
    CountsWide s (tickTimer8 i s) := by
  have chained : Chained i (terminated i s) := h
  have other : (terminated i s).pending.getLsbD 8 = s.pending.getLsbD 8 := by
    rw [terminated_pending, decide_eq_false (by omega), Bool.or_false]
  rw [tickTimer8_terminal terminal, chain_of_chained chained]
  refine countsWide_of_tick (tickTimer16_t4 _) ?_
  rw [tickTimer16_pending, other]
  rfl

/-- Any other count event of an 8-bit timer leaves timer 4 and its request. -/
theorem tickTimer8_notChained {i : Fin 4} {s : State} (h : (tick8 (s.timer8 i)).2 = false ∨ ¬Chained i s) :
    (tickTimer8 i s).t4 = s.t4 ∧ (tickTimer8 i s).pending.getLsbD 8 = s.pending.getLsbD 8 := by
  cases terminal : (tick8 (s.timer8 i)).2 with
  | false =>
    rw [tickTimer8_counting terminal]
    exact ⟨rfl, rfl⟩
  | true =>
    have apart : ¬Chained i (terminated i s) := h.resolve_left (by rw [terminal]; exact Bool.noConfusion)
    rw [tickTimer8_terminal terminal, chain_of_not_chained apart]
    exact ⟨rfl, by rw [terminated_pending, decide_eq_false (by omega), Bool.or_false]⟩

/-- The count event of an 8-bit timer is the rule's (R345, R349). -/
theorem countsByte_tickTimer8 (i : Fin 4) (s : State) : CountsByte i s (tickTimer8 i s) := by
  have timer : (tickTimer8 i s).timer8 i = (tick8 (s.timer8 i)).1 := by rw [tickTimer8_timer8, if_pos rfl]
  have request := tickTimer8_pending i s (j := 4 + i.val) (by omega)
  have chained := tickTimer8_chained (i := i) (s := s)
  have notChained := tickTimer8_notChained (i := i) (s := s)
  rw [decide_eq_true rfl, Bool.true_and] at request
  rw [tick8_eq] at timer request chained notChained
  simp only [CountsByte, counted_eq, timer, request, true_and]
  refine ⟨fun j hj => ?_, fun j hj h8 => ?_, chained, notChained, (onlyTimers_tickTimer8 i s).timersOnly⟩
  · rw [tickTimer8_timer8, if_neg hj]
  · rw [tickTimer8_pending i s h8, decide_eq_false hj, Bool.false_and, Bool.or_false]

/-! ### The prescaler (R342, R343) -/

/-- The cycles to a tick, for the clock codes that take cycles. -/
theorem ratio_eq_ticksEvery {clk : Nat} (h1 : 1 ≤ clk) (h3 : clk ≤ 3) : ratio clk = ticksEvery clk := by
  revert clk
  decide

/-- A prescaler counts one further in its nine bits. -/
theorem presc_succ (p : BitVec 9) : BitVec.ofNat 9 (p.toNat + 1) = p + 1 := by
  rw [BitVec.ofNat_add, BitVec.ofNat_toNat, BitVec.setWidth_eq]
  rfl

/-- One cycle of an 8-bit timer: nothing, a prescaler tick, or a count event. -/
theorem cycleTimer8_counts (i : Fin 4) (s : State) :
    let u := s.timer8 i
    if u.run = true ∧ u.clk ≠ 0 then
      if u.presc.toNat + 1 < ticksEvery u.clk.toNat then
        cycleTimer8 i s = s.setTimer8 i { u with presc := BitVec.ofNat 9 (u.presc.toNat + 1) }
      else CountsByte i (s.setTimer8 i { u with presc := 0 }) (cycleTimer8 i s)
    else cycleTimer8 i s = s := by
  intro u
  have clocked : u.run && u.clk != 0 ↔ u.run = true ∧ u.clk ≠ 0 := by simp
  split
  next running =>
    have clk1 : 1 ≤ u.clk.toNat := Nat.one_le_iff_ne_zero.mpr fun h => running.2 (BitVec.toNat_inj.mp h)
    have clk3 : u.clk.toNat ≤ 3 := Nat.le_of_lt_succ u.clk.isLt
    have cycle : cycleTimer8 i s = _ := if_pos (clocked.mpr running)
    rw [cycle, ← ratio_eq_ticksEvery clk1 clk3]
    split
    next below => rw [if_neg (Nat.not_le.mpr below), presc_succ]
    next full =>
      rw [if_pos (Nat.le_of_not_lt full)]
      exact countsByte_tickTimer8 i _
  next stopped => exact if_neg (mt clocked.mp stopped)

/-- One cycle of timer 4, which takes none on the codes 4 to 7. -/
theorem cycleTimer16_counts (s : State) :
    let u := s.t4
    if u.run = true ∧ 1 ≤ u.clk.toNat ∧ u.clk.toNat ≤ 3 then
      if u.presc.toNat + 1 < ticksEvery u.clk.toNat then
        cycleTimer16 s = s.setTimer16 { u with presc := BitVec.ofNat 9 (u.presc.toNat + 1) }
      else CountsWideOnly (s.setTimer16 { u with presc := 0 }) (cycleTimer16 s)
    else cycleTimer16 s = s := by
  intro u
  have clocked : u.run && u.clk != 0 && decide (u.clk.toNat ≤ 3) ↔
      u.run = true ∧ 1 ≤ u.clk.toNat ∧ u.clk.toNat ≤ 3 := by
    simp [Nat.one_le_iff_ne_zero, ← BitVec.toNat_inj, and_assoc]
  split
  next running =>
    obtain ⟨-, clk1, clk3⟩ := id running
    have cycle : cycleTimer16 s = _ := if_pos (clocked.mpr running)
    rw [cycle, ← ratio_eq_ticksEvery clk1 clk3]
    split
    next below => rw [if_neg (Nat.not_le.mpr below), presc_succ]
    next full =>
      rw [if_pos (Nat.le_of_not_lt full)]
      exact countsWideOnly_tickTimer16 _
  next stopped => exact if_neg (mt clocked.mp stopped)

end Sys2Proof.Machine

section Statements

open Sys2Proof Sys2Proof.Machine

/-- Settles O18: the count event of each timer, then who causes one: the host on clock code 0, the cycle that fills the
prescaler on the others. -/
theorem timerCountEvent : Obligations.TimerCountEvent := by
  refine ⟨countsByte_tickTimer8, fun i s => ?_, fun s => ?_, cycleTimer8_counts, cycleTimer16_counts⟩
  · have external : (s.timer8 i).run && (s.timer8 i).clk == 0 ↔ (s.timer8 i).run = true ∧ (s.timer8 i).clk = 0 := by simp
    split
    next running =>
      rw [timerExtEvent8, if_pos (external.mpr running)]
      exact countsByte_tickTimer8 i s
    next others => exact if_neg (mt external.mp others)
  · have external : s.t4.run && s.t4.clk == 0 ↔ s.t4.run = true ∧ s.t4.clk = 0 := by simp
    split
    next running =>
      rw [timerExtEvent16, if_pos (external.mpr running)]
      exact countsWideOnly_tickTimer16 s
    next others => exact if_neg (mt external.mp others)

end Statements
end

section
/-! SUPPORT. What any stretch of time keeps of the timers and the requests (spec 60 R342). -/

namespace Sys2Proof.Machine

/-- What time does to an 8-bit timer: no new mode, clock or reload value, and nothing at all to a stopped one. -/
def Timer8.Advances (u v : Timer8) : Prop :=
  v.mode = u.mode ∧ v.clk = u.clk ∧ v.reload = u.reload ∧ (u.run = false → v = u)

/-- What time does to timer 4. -/
def Timer16.Advances (u v : Timer16) : Prop :=
  v.mode = u.mode ∧ v.clk = u.clk ∧ v.reload = u.reload ∧ (u.run = false → v = u)

theorem Timer8.Advances.refl (u : Timer8) : u.Advances u := ⟨rfl, rfl, rfl, fun _ => rfl⟩

theorem Timer16.Advances.refl (u : Timer16) : u.Advances u := ⟨rfl, rfl, rfl, fun _ => rfl⟩

theorem Timer8.Advances.trans {u v w : Timer8} (h : u.Advances v) (k : v.Advances w) : u.Advances w := by
  obtain ⟨mode, clk, reload, stopped⟩ := h
  obtain ⟨mode', clk', reload', stopped'⟩ := k
  refine ⟨mode'.trans mode, clk'.trans clk, reload'.trans reload, fun run => ?_⟩
  obtain rfl := stopped run
  exact stopped' run

theorem Timer16.Advances.trans {u v w : Timer16} (h : u.Advances v) (k : v.Advances w) : u.Advances w := by
  obtain ⟨mode, clk, reload, stopped⟩ := h
  obtain ⟨mode', clk', reload', stopped'⟩ := k
  refine ⟨mode'.trans mode, clk'.trans clk, reload'.trans reload, fun run => ?_⟩
  obtain rfl := stopped run
  exact stopped' run

/-- A count event of a running timer. -/
theorem Timer8.advances_tick8 {u : Timer8} (run : u.run = true) : u.Advances (tick8 u).1 := by
  rw [tick8_eq]
  exact ⟨rfl, rfl, rfl, fun stopped => Bool.noConfusion (run.symm.trans stopped)⟩

theorem Timer16.advances_tick16 {u : Timer16} (run : u.run = true) : u.Advances (tick16 u).1 := by
  rw [tick16_eq]
  exact ⟨rfl, rfl, rfl, fun stopped => Bool.noConfusion (run.symm.trans stopped)⟩

/-- What time does: it sets requests 4 to 8 and clears none, and the timers advance. -/
structure TimePasses (s t : State) : Prop where
  sets : ∀ j, s.pending.getLsbD j = true → t.pending.getLsbD j = true
  others : ∀ j, j < 4 ∨ 8 < j → t.pending.getLsbD j = s.pending.getLsbD j
  timer8 : ∀ i, (s.timer8 i).Advances (t.timer8 i)
  timer16 : s.t4.Advances t.t4

namespace TimePasses

variable {s t u : State}

theorem refl (s : State) : TimePasses s s := ⟨fun _ => id, fun _ _ => rfl, fun _ => .refl _, .refl _⟩

theorem trans (h : TimePasses s t) (k : TimePasses t u) : TimePasses s u where
  sets j := k.sets j ∘ h.sets j
  others j hj := (k.others j hj).trans (h.others j hj)
  timer8 i := (h.timer8 i).trans (k.timer8 i)
  timer16 := h.timer16.trans k.timer16

theorem setTimer8 {i : Fin 4} {v : Timer8} (h : (s.timer8 i).Advances v) : TimePasses s (s.setTimer8 i v) where
  sets _ := id
  others _ _ := rfl
  timer8 j := by
    rw [State.setTimer8_timer8]
    split
    next same => exact same ▸ h
    next => exact .refl _
  timer16 := .refl _

theorem setTimer16 {v : Timer16} (h : s.t4.Advances v) : TimePasses s (s.setTimer16 v) :=
  ⟨fun _ => id, fun _ _ => rfl, fun _ => .refl _, h⟩

theorem raiseRequest {i : Nat} (h4 : 4 ≤ i) (h8 : i ≤ 8) (s : State) : TimePasses s (raiseRequest i s) where
  sets j set := by rw [raiseRequest_getLsbD (by omega), set, Bool.true_or]
  others j hj := by rw [raiseRequest_getLsbD (by omega), decide_eq_false (by omega), Bool.or_false]
  timer8 _ := .refl _
  timer16 := .refl _

theorem tickTimer16 (run : s.t4.run = true) : TimePasses s (tickTimer16 s) := by
  have ticked := setTimer16 (s := s) (Timer16.advances_tick16 run)
  unfold Machine.tickTimer16
  dsimp only
  split
  · exact ticked.trans (raiseRequest (by omega) (by omega) _)
  · exact ticked

theorem chain (i : Fin 4) (s : State) : TimePasses s (chain i s) := by
  by_cases chained : Chained i s
  · obtain ⟨run, -⟩ := id chained
    exact chain_of_chained chained ▸ tickTimer16 run
  · exact (chain_of_not_chained chained).symm ▸ refl s

theorem tickTimer8 {i : Fin 4} (run : (s.timer8 i).run = true) : TimePasses s (tickTimer8 i s) := by
  have ticked := setTimer8 (s := s) (Timer8.advances_tick8 run)
  cases terminal : (tick8 (s.timer8 i)).2 with
  | false => exact tickTimer8_counting terminal ▸ ticked
  | true =>
    rw [tickTimer8_terminal terminal]
    exact (ticked.trans (raiseRequest (by omega) (by omega) _)).trans (chain i _)

/-- A replaced prescaler of a running timer, then perhaps a count event. -/
theorem cycleTimer8 (i : Fin 4) (s : State) : TimePasses s (cycleTimer8 i s) := by
  unfold Machine.cycleTimer8
  dsimp only
  split
  next clocked =>
    obtain ⟨run, -⟩ := (Bool.and_eq_true _ _).mp clocked
    have prescaled (p : BitVec 9) : TimePasses s (s.setTimer8 i { s.timer8 i with presc := p }) :=
      setTimer8 ⟨rfl, rfl, rfl, fun stopped => Bool.noConfusion (run.symm.trans stopped)⟩
    split
    · exact (prescaled 0).trans (tickTimer8 (by rw [State.setTimer8_timer8, if_pos rfl]; exact run))
    · exact prescaled _
  next => exact refl s

theorem cycleTimer16 (s : State) : TimePasses s (cycleTimer16 s) := by
  unfold Machine.cycleTimer16
  dsimp only
  split
  next clocked =>
    obtain ⟨running, -⟩ := (Bool.and_eq_true _ _).mp clocked
    obtain ⟨run, -⟩ := (Bool.and_eq_true _ _).mp running
    have prescaled (p : BitVec 9) : TimePasses s (s.setTimer16 { s.t4 with presc := p }) :=
      setTimer16 ⟨rfl, rfl, rfl, fun stopped => Bool.noConfusion (run.symm.trans stopped)⟩
    split
    · exact (prescaled 0).trans (tickTimer16 run)
    · exact prescaled _
  next => exact refl s

theorem advanceCycle (s : State) : TimePasses s (advanceCycle s) :=
  ((((cycleTimer8 0 s).trans (cycleTimer8 1 _)).trans (cycleTimer8 2 _)).trans (cycleTimer8 3 _)).trans (cycleTimer16 _)

theorem advanceTimers (n : Nat) (s : State) : TimePasses s (advanceTimers n s) := by
  induction n generalizing s with
  | zero => exact refl s
  | succ n ih => exact (advanceCycle s).trans (ih _)

end TimePasses

end Sys2Proof.Machine

section Statements

open Sys2Proof Sys2Proof.Machine

/-- Settles O17: every cycle of every timer passes time in this sense, and no cycle writes anything else. -/
theorem timeTouchesOnlyTimers : Obligations.TimeTouchesOnlyTimers := by
  intro n s t
  obtain ⟨sets, others, timer8, timer16⟩ := TimePasses.advanceTimers n s
  exact ⟨(onlyTimers_advanceTimers n s).timersOnly, sets, others, timer8, timer16⟩

end Statements
end

section
/-! SUPPORT. The period of a free-running timer (spec 60 R342 to R346): a timer is seen as a count-down in numbers, whose
course over any number of cycles is a division with remainder. -/

namespace Sys2Proof.Machine

open Sys2Proof.Rules

/-! ### The count-down in numbers -/

/-- What matters of a free-running timer: its count, its prescaler and its request. -/
structure CountDown where
  count : Nat
  presc : Nat
  request : Bool

/-- One cycle of a free-running timer with `k` cycles to a tick and reload value `r`. -/
def CountDown.cycle (k r : Nat) (d : CountDown) : CountDown :=
  if d.presc + 1 < k then { d with presc := d.presc + 1 }
  else if d.count = 0 then ⟨r, 0, true⟩
  else ⟨d.count - 1, 0, d.request⟩

/-- Before the period is over, the cycles passed are the ticks taken and the prescaler. -/
theorem CountDown.cycle_iterate {k : Nat} (hk : 0 < k) (r : Nat) (q : Bool) {n : Nat} (h : n < (r + 1) * k) :
    (CountDown.cycle k r)^[n] ⟨r, 0, q⟩ = ⟨r - n / k, n % k, q⟩ := by
  induction n with
  | zero => simp
  | succ n ih =>
    have rest : n % k < k := Nat.mod_lt n hk
    have parts : n % k + k * (n / k) = n := Nat.mod_add_div n k
    rw [Function.iterate_succ_apply', ih (by omega), CountDown.cycle]
    dsimp only
    split
    next below =>
      obtain ⟨ticks, presc⟩ := (Nat.div_mod_unique (a := n + 1) (d := n / k) (c := n % k + 1) hk).mpr ⟨by omega, below⟩
      rw [ticks, presc]
    next full =>
      have last : k * (n / k + 1) = n + 1 := by rw [Nat.mul_succ]; omega
      obtain ⟨ticks, presc⟩ := (Nat.div_mod_unique (a := n + 1) (d := n / k + 1) (c := 0) hk).mpr ⟨by omega, hk⟩
      have inside : n / k + 1 < r + 1 := ticks ▸ (Nat.div_lt_iff_lt_mul hk).mpr h
      rw [if_neg (by omega), ticks, presc, Nat.sub_sub]

/-- When the period is over, the count is back at the reload value and the request is set. -/
theorem CountDown.cycle_iterate_period {k : Nat} (hk : 0 < k) (r : Nat) (q : Bool) :
    (CountDown.cycle k r)^[(r + 1) * k] ⟨r, 0, q⟩ = ⟨r, 0, true⟩ := by
  obtain ⟨n, period⟩ : ∃ n, (r + 1) * k = n + 1 := Nat.exists_eq_add_one.mpr (Nat.mul_pos r.succ_pos hk)
  obtain ⟨ticks, presc⟩ := (Nat.div_mod_unique (a := n) (d := r) (c := k - 1) hk).mpr
    ⟨by rw [Nat.succ_mul, Nat.mul_comm] at period; omega, by omega⟩
  rw [period, Function.iterate_succ_apply', CountDown.cycle_iterate hk r q (by omega), ticks, presc, CountDown.cycle]
  dsimp only
  rw [if_neg (by omega), if_pos (Nat.sub_self r)]

theorem ticksEvery_pos (clk : Nat) : 0 < ticksEvery clk := by
  unfold ticksEvery
  split_ifs <;> omega

/-- A count event in free-run mode does not stop the timer. -/
theorem counted_freeRun_run (w count reload : Nat) : (counted w 0 count reload true).2.1 = true := by
  by_cases zero : count = 0 <;> simp [counted, zero]

/-- The cycle that fills the prescaler is the count event of the rule (R345). -/
theorem CountDown.cycle_full {k : Nat} {d : CountDown} (full : ¬d.presc + 1 < k) (w r : Nat) :
    d.cycle k r = ⟨(counted w 0 d.count r true).1, 0, d.request || (counted w 0 d.count r true).2.2⟩ := by
  rw [CountDown.cycle, if_neg full]
  by_cases zero : d.count = 0 <;> simp [counted, zero]

/-! ### Cycles, one after the other -/

/-- The cycle after `n` cycles. -/
theorem advanceTimers_succ (n : Nat) (s : State) : advanceTimers (n + 1) s = advanceCycle (advanceTimers n s) :=
  advanceTimers_add n 1 s

/-- A view of the state that each cycle takes one step further is after `n` cycles `n` steps further. -/
theorem view_advanceTimers {P : State → Prop} {view : State → CountDown} {f : CountDown → CountDown}
    (cycle : ∀ s, P s → P (advanceCycle s) ∧ view (advanceCycle s) = f (view s)) {s : State} (h : P s) (n : Nat) :
    P (advanceTimers n s) ∧ view (advanceTimers n s) = f^[n] (view s) := by
  induction n with
  | zero => exact ⟨h, rfl⟩
  | succ n ih =>
    obtain ⟨holds, seen⟩ := ih
    obtain ⟨holds', seen'⟩ := cycle _ holds
    rw [advanceTimers_succ]
    exact ⟨holds', by rw [seen', seen, Function.iterate_succ_apply']⟩

/-! ### Timers 0 to 3 -/

/-- Timer i of 0..3 and its request are as before. -/
def SameTimer8 (i : Fin 4) (s t : State) : Prop :=
  t.timer8 i = s.timer8 i ∧ t.pending.getLsbD (4 + i.val) = s.pending.getLsbD (4 + i.val)

theorem SameTimer8.refl (i : Fin 4) (s : State) : SameTimer8 i s s := ⟨rfl, rfl⟩

theorem SameTimer8.trans {i : Fin 4} {s t u : State} (h : SameTimer8 i s t) (k : SameTimer8 i t u) : SameTimer8 i s u :=
  ⟨k.1.trans h.1, k.2.trans h.2⟩

/-- A cycle of another 8-bit timer. -/
theorem sameTimer8_cycleTimer8 {i j : Fin 4} (h : j ≠ i) (s : State) : SameTimer8 j s (cycleTimer8 i s) := by
  have cycle := cycleTimer8_counts i s
  dsimp only at cycle
  split_ifs at cycle
  · rw [cycle]
    exact ⟨by rw [State.setTimer8_timer8, if_neg h], rfl⟩
  · obtain ⟨-, -, -, -, -, -, timers, -, requests, -⟩ := cycle
    exact ⟨by rw [timers j h, State.setTimer8_timer8, if_neg h], requests _ (by omega) (by omega)⟩
  · rw [cycle]
    exact .refl j s

/-- A cycle of timer 4. -/
theorem sameTimer8_cycleTimer16 (i : Fin 4) (s : State) : SameTimer8 i s (cycleTimer16 s) := by
  have cycle := cycleTimer16_counts s
  dsimp only at cycle
  split_ifs at cycle
  · rw [cycle]
    exact .refl i s
  · obtain ⟨-, -, timers, requests⟩ := cycle
    exact ⟨timers i, requests _ (by omega)⟩
  · rw [cycle]
    exact .refl i s

/-- In one cycle of all timers, timer i takes its own cycle and no other timer's touches it. -/
theorem advanceCycle_sameTimer8 (i : Fin 4) (s : State) :
    ∃ u, SameTimer8 i s u ∧ SameTimer8 i (cycleTimer8 i u) (advanceCycle s) := by
  have other {j : Fin 4} (h : i ≠ j) (u : State) := sameTimer8_cycleTimer8 h u
  have last (u : State) := sameTimer8_cycleTimer16 i u
  match i with
  | 0 =>
    exact ⟨s, .refl 0 s,
      (((other (by decide) _).trans (other (by decide) _)).trans (other (by decide) _)).trans (last _)⟩
  | 1 => exact ⟨_, other (by decide) s, ((other (by decide) _).trans (other (by decide) _)).trans (last _)⟩
  | 2 => exact ⟨_, (other (by decide) s).trans (other (by decide) _), (other (by decide) _).trans (last _)⟩
  | 3 => exact ⟨_, ((other (by decide) s).trans (other (by decide) _)).trans (other (by decide) _), last _⟩

/-- Timer i of 0..3 runs freely, on a clock of its own, with this clock code and this reload value. -/
def FreeRuns8 (i : Fin 4) (clk : BitVec 2) (reload : Byte) (s : State) : Prop :=
  (s.timer8 i).run = true ∧ (s.timer8 i).mode = 0 ∧ (s.timer8 i).clk = clk ∧ (s.timer8 i).reload = reload

/-- Timer i of 0..3 as a count-down. -/
def countDown8 (i : Fin 4) (s : State) : CountDown :=
  ⟨(s.timer8 i).count.toNat, (s.timer8 i).presc.toNat, s.pending.getLsbD (4 + i.val)⟩

/-- A timer just started. -/
theorem countDown8_start {i : Fin 4} {s : State} (presc : (s.timer8 i).presc = 0)
    (count : (s.timer8 i).count = (s.timer8 i).reload) :
    countDown8 i s = ⟨(s.timer8 i).reload.toNat, 0, s.pending.getLsbD (4 + i.val)⟩ := by
  rw [countDown8, presc, count]
  rfl

theorem SameTimer8.countDown8_eq {i : Fin 4} {s t : State} (h : SameTimer8 i s t) : countDown8 i t = countDown8 i s := by
  obtain ⟨timer, request⟩ := h
  rw [countDown8, timer, request]
  rfl

theorem SameTimer8.freeRuns8 {i : Fin 4} {clk : BitVec 2} {reload : Byte} {s t : State} (h : SameTimer8 i s t)
    (runs : FreeRuns8 i clk reload s) : FreeRuns8 i clk reload t := by
  obtain ⟨timer, -⟩ := h
  rwa [FreeRuns8, timer]

/-- A prescaler counts on while it is below 256. -/
theorem presc_ofNat {p clk : Nat} (h : p + 1 < ticksEvery clk) : (BitVec.ofNat 9 (p + 1)).toNat = p + 1 := by
  have : ticksEvery clk ≤ 256 := by
    unfold ticksEvery
    split_ifs <;> omega
  rw [BitVec.toNat_ofNat, Nat.mod_eq_of_lt (by omega)]

/-- A timer's own cycle is a cycle of the count-down. -/
theorem cycleTimer8_freeRuns8 {i : Fin 4} {clk : BitVec 2} {reload : Byte} (hclk : clk ≠ 0) {s : State}
    (runs : FreeRuns8 i clk reload s) :
    FreeRuns8 i clk reload (cycleTimer8 i s) ∧
      countDown8 i (cycleTimer8 i s) = (countDown8 i s).cycle (ticksEvery clk.toNat) reload.toNat := by
  obtain ⟨run, mode, rfl, rfl⟩ := runs
  have cycle := cycleTimer8_counts i s
  dsimp only at cycle
  rw [if_pos ⟨run, hclk⟩] at cycle
  split_ifs at cycle with below
  · have counted : (countDown8 i s).cycle _ (s.timer8 i).reload.toNat = _ := if_pos below
    rw [cycle, counted]
    simp only [FreeRuns8, countDown8, State.setTimer8_timer8, if_true, run, mode, presc_ofNat below,
      State.setTimer8_pending, and_self]
  · obtain ⟨count, run', mode', clk', reload', presc', -, request, -⟩ := cycle
    have mode0 : (s.timer8 i).mode.toNat = 0 := congrArg BitVec.toNat mode
    simp only [State.setTimer8_timer8, if_true, run, mode0, State.setTimer8_pending, counted_freeRun_run]
      at count run' mode' clk' reload' presc' request
    have presc0 : ((cycleTimer8 i s).timer8 i).presc.toNat = 0 := congrArg BitVec.toNat presc'
    refine ⟨⟨run', mode'.trans mode, clk', reload'⟩, ?_⟩
    rw [CountDown.cycle_full (d := countDown8 i s) below 8, countDown8, count, presc0, request]
    rfl

theorem advanceCycle_freeRuns8 {i : Fin 4} {clk : BitVec 2} {reload : Byte} (hclk : clk ≠ 0) (s : State)
    (runs : FreeRuns8 i clk reload s) :
    FreeRuns8 i clk reload (advanceCycle s) ∧
      countDown8 i (advanceCycle s) = (countDown8 i s).cycle (ticksEvery clk.toNat) reload.toNat := by
  obtain ⟨u, before, after⟩ := advanceCycle_sameTimer8 i s
  obtain ⟨runs', counts⟩ := cycleTimer8_freeRuns8 hclk (before.freeRuns8 runs)
  exact ⟨after.freeRuns8 runs', by rw [after.countDown8_eq, counts, before.countDown8_eq]⟩

/-! ### Timer 4 -/

/-- Timer 4 and its request are as before. -/
def SameTimer16 (s t : State) : Prop := t.t4 = s.t4 ∧ t.pending.getLsbD 8 = s.pending.getLsbD 8

theorem SameTimer16.trans {s t u : State} (h : SameTimer16 s t) (k : SameTimer16 t u) : SameTimer16 s u :=
  ⟨k.1.trans h.1, k.2.trans h.2⟩

/-- Timer 4 runs freely, on a clock of its own, with this clock code and this reload value. -/
def FreeRuns16 (clk : BitVec 3) (reload : Word) (s : State) : Prop :=
  s.t4.run = true ∧ s.t4.mode = 0 ∧ s.t4.clk = clk ∧ s.t4.reload = reload

/-- Timer 4 as a count-down. -/
def countDown16 (s : State) : CountDown := ⟨s.t4.count.toNat, s.t4.presc.toNat, s.pending.getLsbD 8⟩

/-- Timer 4 just started. -/
theorem countDown16_start {s : State} (presc : s.t4.presc = 0) (count : s.t4.count = s.t4.reload) :
    countDown16 s = ⟨s.t4.reload.toNat, 0, s.pending.getLsbD 8⟩ := by
  rw [countDown16, presc, count]
  rfl

theorem SameTimer16.countDown16_eq {s t : State} (h : SameTimer16 s t) : countDown16 t = countDown16 s := by
  obtain ⟨timer, request⟩ := h
  rw [countDown16, timer, request]
  rfl

theorem SameTimer16.freeRuns16 {clk : BitVec 3} {reload : Word} {s t : State} (h : SameTimer16 s t)
    (runs : FreeRuns16 clk reload s) : FreeRuns16 clk reload t := by
  obtain ⟨timer, -⟩ := h
  rwa [FreeRuns16, timer]

/-- A cycle of an 8-bit timer, when timer 4 is on none of the codes 4 and 5 that chain it. -/
theorem sameTimer16_cycleTimer8 (i : Fin 4) {s : State} (unchained : s.t4.clk.toNat ≤ 3) :
    SameTimer16 s (cycleTimer8 i s) := by
  have cycle := cycleTimer8_counts i s
  dsimp only at cycle
  split_ifs at cycle
  · rw [cycle]
    exact ⟨rfl, rfl⟩
  · obtain ⟨-, -, -, -, -, -, -, -, -, -, kept, -⟩ := cycle
    refine kept (.inr fun ⟨_, chained⟩ => ?_)
    rw [State.setTimer8_t4] at chained
    omega
  · rw [cycle]
    exact ⟨rfl, rfl⟩

/-- In one cycle of all timers, the 8-bit timers leave an unchained timer 4 to its own cycle. -/
theorem advanceCycle_sameTimer16 {s : State} (unchained : s.t4.clk.toNat ≤ 3) :
    ∃ u, SameTimer16 s u ∧ advanceCycle s = cycleTimer16 u := by
  have next (i : Fin 4) {u : State} (h : SameTimer16 s u) : SameTimer16 s (cycleTimer8 i u) :=
    h.trans (sameTimer16_cycleTimer8 i (by rw [h.1]; exact unchained))
  exact ⟨_, next 3 (next 2 (next 1 (next 0 ⟨rfl, rfl⟩))), rfl⟩

theorem cycleTimer16_freeRuns16 {clk : BitVec 3} {reload : Word} (hclk : 1 ≤ clk.toNat ∧ clk.toNat ≤ 3) {s : State}
    (runs : FreeRuns16 clk reload s) :
    FreeRuns16 clk reload (cycleTimer16 s) ∧
      countDown16 (cycleTimer16 s) = (countDown16 s).cycle (ticksEvery clk.toNat) reload.toNat := by
  obtain ⟨run, mode, rfl, rfl⟩ := runs
  have cycle := cycleTimer16_counts s
  dsimp only at cycle
  rw [if_pos ⟨run, hclk⟩] at cycle
  split_ifs at cycle with below
  · have counted : (countDown16 s).cycle _ s.t4.reload.toNat = _ := if_pos below
    rw [cycle, counted]
    simp only [FreeRuns16, countDown16, State.setTimer16_t4, run, mode, presc_ofNat below, State.setTimer16_pending,
      and_self]
  · obtain ⟨⟨count, run', mode', clk', reload', presc', request⟩, -⟩ := cycle
    have mode0 : s.t4.mode.toNat = 0 := congrArg BitVec.toNat mode
    simp only [State.setTimer16_t4, run, mode0, State.setTimer16_pending, counted_freeRun_run]
      at count run' mode' clk' reload' presc' request
    have presc0 : (cycleTimer16 s).t4.presc.toNat = 0 := congrArg BitVec.toNat presc'
    refine ⟨⟨run', mode'.trans mode, clk', reload'⟩, ?_⟩
    rw [CountDown.cycle_full (d := countDown16 s) below 16, countDown16, count, presc0, request]
    rfl

theorem advanceCycle_freeRuns16 {clk : BitVec 3} {reload : Word} (hclk : 1 ≤ clk.toNat ∧ clk.toNat ≤ 3) (s : State)
    (runs : FreeRuns16 clk reload s) :
    FreeRuns16 clk reload (advanceCycle s) ∧
      countDown16 (advanceCycle s) = (countDown16 s).cycle (ticksEvery clk.toNat) reload.toNat := by
  obtain ⟨-, -, rfl, -⟩ := id runs
  obtain ⟨u, before, after⟩ := advanceCycle_sameTimer16 hclk.2
  obtain ⟨runs', counts⟩ := cycleTimer16_freeRuns16 hclk (before.freeRuns16 runs)
  rw [after]
  exact ⟨runs', by rw [counts, before.countDown16_eq]⟩

end Sys2Proof.Machine

section Statements

open Sys2Proof Sys2Proof.Machine

/-- Settles O19: each timer is a count-down from its reload value, and stays one for as long as it runs freely. -/
theorem freeRunPeriod : Obligations.FreeRunPeriod := by
  constructor
  · intro i s u k run mode clk presc count
    have later := view_advanceTimers (advanceCycle_freeRuns8 (i := i) clk) (s := s) ⟨run, mode, rfl, rfl⟩
    rw [countDown8_start presc count] at later
    refine ⟨fun n before => ?_, ?_⟩
    · obtain ⟨-, seen⟩ := later n
      rw [CountDown.cycle_iterate (ticksEvery_pos _) _ _ before] at seen
      exact ⟨congrArg CountDown.count seen, congrArg CountDown.request seen⟩
    · obtain ⟨⟨run', -⟩, seen⟩ := later ((u.reload.toNat + 1) * k)
      rw [CountDown.cycle_iterate_period (ticksEvery_pos _)] at seen
      exact ⟨BitVec.eq_of_toNat_eq (congrArg CountDown.count seen), run', congrArg CountDown.request seen⟩
  · intro s u k run mode clk1 clk3 presc count
    have later := view_advanceTimers (advanceCycle_freeRuns16 ⟨clk1, clk3⟩) (s := s) ⟨run, mode, rfl, rfl⟩
    rw [countDown16_start presc count] at later
    refine ⟨fun n before => ?_, ?_⟩
    · obtain ⟨-, seen⟩ := later n
      rw [CountDown.cycle_iterate (ticksEvery_pos _) _ _ before] at seen
      exact ⟨congrArg CountDown.count seen, congrArg CountDown.request seen⟩
    · obtain ⟨⟨run', -⟩, seen⟩ := later ((u.reload.toNat + 1) * k)
      rw [CountDown.cycle_iterate_period (ticksEvery_pos _)] at seen
      exact ⟨BitVec.eq_of_toNat_eq (congrArg CountDown.count seen), run', congrArg CountDown.request seen⟩

end Statements
end

section
/-! SUPPORT. Nothing in a step reads `residual` (spec 10 R36): the host's write of it commutes with every operation on the
state, and so with a step. -/

namespace Sys2Proof.Machine

/-! ### Registers, flags and operands -/

section Operations

variable (n : Nat) (s : State)

@[simp] theorem hostWriteResidual_gen : (hostWriteResidual n s).gen = s.gen := rfl
@[simp] theorem hostWriteResidual_af : (hostWriteResidual n s).af = s.af := rfl
@[simp] theorem hostWriteResidual_f : (hostWriteResidual n s).f = s.f := rfl
@[simp] theorem hostWriteResidual_pc : (hostWriteResidual n s).pc = s.pc := rfl
@[simp] theorem hostWriteResidual_sp : (hostWriteResidual n s).sp = s.sp := rfl
@[simp] theorem hostWriteResidual_cfg : (hostWriteResidual n s).cfg = s.cfg := rfl
@[simp] theorem hostWriteResidual_ports : (hostWriteResidual n s).ports = s.ports := rfl
@[simp] theorem hostWriteResidual_busAnswers : (hostWriteResidual n s).busAnswers = s.busAnswers := rfl
@[simp] theorem hostWriteResidual_freeCount : (hostWriteResidual n s).freeCount = s.freeCount := rfl
@[simp] theorem hostWriteResidual_halted : (hostWriteResidual n s).halted = s.halted := rfl
@[simp] theorem hostWriteResidual_afterEi : (hostWriteResidual n s).afterEi = s.afterEi := rfl
@[simp] theorem hostWriteResidual_pending : (hostWriteResidual n s).pending = s.pending := rfl
@[simp] theorem hostWriteResidual_t4 : (hostWriteResidual n s).t4 = s.t4 := rfl
@[simp] theorem hostWriteResidual_timer8 (i : Fin 4) : (hostWriteResidual n s).timer8 i = s.timer8 i := rfl
@[simp] theorem hostWriteResidual_get8 (r : Reg8) : (hostWriteResidual n s).get8 r = s.get8 r := by cases r <;> rfl
@[simp] theorem hostWriteResidual_get16 (g : Reg16) : (hostWriteResidual n s).get16 g = s.get16 g := by cases g <;> rfl
@[simp] theorem hostWriteResidual_getQ (q : RegQ) : (hostWriteResidual n s).getQ q = s.getQ q := by cases q <;> rfl

@[simp] theorem setGen_hostWriteResidual (g : GenBank) :
    (hostWriteResidual n s).setGen g = hostWriteResidual n (s.setGen g) := rfl
@[simp] theorem setAf_hostWriteResidual (w : Word) :
    (hostWriteResidual n s).setAf w = hostWriteResidual n (s.setAf w) := rfl
@[simp] theorem setF_hostWriteResidual (f : Byte) :
    (hostWriteResidual n s).setF f = hostWriteResidual n (s.setF f) := rfl
@[simp] theorem setPc_hostWriteResidual (w : Word) :
    (hostWriteResidual n s).setPc w = hostWriteResidual n (s.setPc w) := rfl
@[simp] theorem setSp_hostWriteResidual (w : Word) :
    (hostWriteResidual n s).setSp w = hostWriteResidual n (s.setSp w) := rfl
@[simp] theorem swapGen_hostWriteResidual : (hostWriteResidual n s).swapGen = hostWriteResidual n s.swapGen := rfl
@[simp] theorem swapAf_hostWriteResidual : (hostWriteResidual n s).swapAf = hostWriteResidual n s.swapAf := rfl
@[simp] theorem setHalted_hostWriteResidual (b : Bool) :
    (hostWriteResidual n s).setHalted b = hostWriteResidual n (s.setHalted b) := rfl
@[simp] theorem setAfterEi_hostWriteResidual (b : Bool) :
    (hostWriteResidual n s).setAfterEi b = hostWriteResidual n (s.setAfterEi b) := rfl
@[simp] theorem setPending_hostWriteResidual (p : BitVec 14) :
    (hostWriteResidual n s).setPending p = hostWriteResidual n (s.setPending p) := rfl
@[simp] theorem setCost_hostWriteResidual (c : Nat) :
    (hostWriteResidual n s).setCost c = hostWriteResidual n (s.setCost c) := rfl
@[simp] theorem takeFree_hostWriteResidual : (hostWriteResidual n s).takeFree = hostWriteResidual n s.takeFree := rfl
@[simp] theorem setTimer8_hostWriteResidual (i : Fin 4) (u : Timer8) :
    (hostWriteResidual n s).setTimer8 i u = hostWriteResidual n (s.setTimer8 i u) := rfl
@[simp] theorem setTimer16_hostWriteResidual (u : Timer16) :
    (hostWriteResidual n s).setTimer16 u = hostWriteResidual n (s.setTimer16 u) := rfl
@[simp] theorem raiseRequest_hostWriteResidual (i : Nat) :
    raiseRequest i (hostWriteResidual n s) = hostWriteResidual n (raiseRequest i s) := rfl

@[simp] theorem set8_hostWriteResidual (r : Reg8) (v : Byte) :
    (hostWriteResidual n s).set8 r v = hostWriteResidual n (s.set8 r v) := by cases r <;> rfl
@[simp] theorem set16_hostWriteResidual (g : Reg16) (w : Word) :
    (hostWriteResidual n s).set16 g w = hostWriteResidual n (s.set16 g w) := by cases g <;> rfl
@[simp] theorem setQ_hostWriteResidual (q : RegQ) (w : Word) :
    (hostWriteResidual n s).setQ q w = hostWriteResidual n (s.setQ q w) := by cases q <;> rfl

@[simp] theorem ite_hostWriteResidual {c : Prop} [Decidable c] (t : State) :
    (if c then hostWriteResidual n s else hostWriteResidual n t) = hostWriteResidual n (if c then s else t) :=
  (apply_ite (hostWriteResidual n) c s t).symm

@[simp] theorem ea_hostWriteResidual (m : Mem) : ea m (hostWriteResidual n s) = ea m s := by
  cases m <;> simp [ea]
@[simp] theorem addr_hostWriteResidual (m : Mem) : addr m (hostWriteResidual n s) = addr m s := by
  rw [addr, ea_hostWriteResidual]
  rfl
@[simp] theorem holds_hostWriteResidual (cc : Cond) : holds cc (hostWriteResidual n s) = holds cc s := rfl
@[simp] theorem flagX_hostWriteResidual : flagX (hostWriteResidual n s) = flagX s := rfl
@[simp] theorem rel8_hostWriteResidual (e : Byte) : rel8 e (hostWriteResidual n s) = rel8 e s := rfl
@[simp] theorem rel16_hostWriteResidual (w : Word) : rel16 w (hostWriteResidual n s) = rel16 w s := rfl

/-! ### Accesses -/

@[simp] theorem read8_hostWriteResidual (a : Addr) :
    read8 a (hostWriteResidual n s) = ((read8 a s).1, hostWriteResidual n (read8 a s).2) := by
  unfold read8
  split
  next r _ =>
    cases r with
    | port p =>
      unfold ioRead readPort
      dsimp only
      rw [hostWriteResidual_ports]
      split <;> rfl
    | _ => rfl
  next =>
    unfold memRead8 State.memKind
    rw [hostWriteResidual_cfg, hostWriteResidual_busAnswers]
    split
    · split <;> rfl
    · rfl

@[simp] theorem write8_hostWriteResidual (a : Addr) (v : Byte) :
    write8 a v (hostWriteResidual n s) = hostWriteResidual n (write8 a v s) := by
  unfold write8
  split
  next r _ =>
    cases r with
    | port p =>
      unfold ioWrite writePort
      dsimp only
      rw [hostWriteResidual_ports]
      split <;> rfl
    | _ => rfl
  next =>
    unfold memWrite8 State.memKind
    rw [hostWriteResidual_cfg]
    split <;> rfl

@[simp] theorem read16_hostWriteResidual (a : Addr) :
    read16 a (hostWriteResidual n s) = ((read16 a s).1, hostWriteResidual n (read16 a s).2) := by
  simp [read16]

@[simp] theorem write16_hostWriteResidual (a : Addr) (v : Word) :
    write16 a v (hostWriteResidual n s) = hostWriteResidual n (write16 a v s) := by
  simp [write16]

@[simp] theorem push16_hostWriteResidual (v : Word) :
    push16 v (hostWriteResidual n s) = hostWriteResidual n (push16 v s) := by
  simp [push16]

@[simp] theorem pop16_hostWriteResidual :
    pop16 (hostWriteResidual n s) = ((pop16 s).1, hostWriteResidual n (pop16 s).2) := by
  simp [pop16]

@[simp] theorem fetch8_hostWriteResidual :
    fetch8 (hostWriteResidual n s) = ((fetch8 s).1, hostWriteResidual n (fetch8 s).2) := by
  simp [fetch8]

@[simp] theorem accept_hostWriteResidual (i : Fin 14) (ret : Word) :
    accept i ret (hostWriteResidual n s) = hostWriteResidual n (accept i ret s) := by
  simp [accept, pushFrame]

@[simp] theorem returnFromInterrupt_hostWriteResidual :
    returnFromInterrupt (hostWriteResidual n s) = hostWriteResidual n (returnFromInterrupt s) := by
  simp [returnFromInterrupt]

/-! ### The shared operations of the meanings, in the order of the model's files -/

@[simp] theorem aluHl_hostWriteResidual (op : AluOp) (b : Word) :
    aluHl op b (hostWriteResidual n s) = hostWriteResidual n (aluHl op b s) := by
  simp [aluHl]

@[simp] theorem aluHlMem_hostWriteResidual (op : AluOp) (m : Mem) :
    aluHlMem op m (hostWriteResidual n s) = hostWriteResidual n (aluHlMem op m s) := by
  simp [aluHlMem]

@[simp] theorem addX_hostWriteResidual (x : RegX) (b : Word) :
    addX x b (hostWriteResidual n s) = hostWriteResidual n (addX x b s) := by
  simp [addX]

@[simp] theorem addXMem_hostWriteResidual (x : RegX) (m : Mem) :
    addXMem x m (hostWriteResidual n s) = hostWriteResidual n (addXMem x m s) := by
  simp [addXMem]

@[simp] theorem aluA_hostWriteResidual (op : AluOp) (b : Byte) :
    aluA op b (hostWriteResidual n s) = hostWriteResidual n (aluA op b s) := by
  simp [aluA]

@[simp] theorem aluAMem_hostWriteResidual (op : AluOp) (m : Mem) :
    aluAMem op m (hostWriteResidual n s) = hostWriteResidual n (aluAMem op m s) := by
  simp [aluAMem]

@[simp] theorem aluRN_hostWriteResidual (op : AluOp) (p : Reg8) (b : Byte) :
    aluRN op p b (hostWriteResidual n s) = hostWriteResidual n (aluRN op p b s) := by
  simp [aluRN]

@[simp] theorem aluMemN_hostWriteResidual (op : AluOp) (m : Mem) (b : Byte) :
    aluMemN op m b (hostWriteResidual n s) = hostWriteResidual n (aluMemN op m b s) := by
  simp [aluMemN]

@[simp] theorem testBit_hostWriteResidual (b : BitNo) (v : Byte) :
    testBit b v (hostWriteResidual n s) = hostWriteResidual n (testBit b v s) := by
  simp [testBit]

@[simp] theorem ldElement_hostWriteResidual (d : Word) :
    ldElement d (hostWriteResidual n s) = (hostWriteResidual n (ldElement d s).1, (ldElement d s).2) := by
  simp [ldElement]

@[simp] theorem cpElement_hostWriteResidual (d : Word) :
    cpElement d (hostWriteResidual n s) = (hostWriteResidual n (cpElement d s).1, (cpElement d s).2) := by
  simp [cpElement]

@[simp] theorem repeatWhile_hostWriteResidual (again : Bool) :
    repeatWhile (hostWriteResidual n s, again) =
      (hostWriteResidual n (repeatWhile (s, again)).1, (repeatWhile (s, again)).2) := by
  simp [repeatWhile]

@[simp] theorem jumpIf_hostWriteResidual (c : Bool) (w : Word) :
    jumpIf c w (hostWriteResidual n s) = hostWriteResidual n (jumpIf c w s) := by
  simp [jumpIf]

@[simp] theorem callIf_hostWriteResidual (c : Bool) (w : Word) :
    callIf c w (hostWriteResidual n s) = hostWriteResidual n (callIf c w s) := by
  simp [callIf]

@[simp] theorem retIf_hostWriteResidual (c : Bool) :
    retIf c (hostWriteResidual n s) = hostWriteResidual n (retIf c s) := by
  simp [retIf]

@[simp] theorem djnz_hostWriteResidual (e : Byte) :
    djnz e (hostWriteResidual n s) = (hostWriteResidual n (djnz e s).1, (djnz e s).2) := by
  simp [djnz]

@[simp] theorem djnzBc_hostWriteResidual (e : Byte) :
    djnzBc e (hostWriteResidual n s) = (hostWriteResidual n (djnzBc e s).1, (djnzBc e s).2) := by
  simp [djnzBc]

@[simp] theorem incMem8_hostWriteResidual (m : Mem) :
    incMem8 m (hostWriteResidual n s) = hostWriteResidual n (incMem8 m s) := by
  simp [incMem8]

@[simp] theorem decMem8_hostWriteResidual (m : Mem) :
    decMem8 m (hostWriteResidual n s) = hostWriteResidual n (decMem8 m s) := by
  simp [decMem8]

@[simp] theorem incx_hostWriteResidual (u : Byte) :
    incx u (hostWriteResidual n s) = (hostWriteResidual n (incx u s).1, (incx u s).2) := by
  simp [incx]

@[simp] theorem decx_hostWriteResidual (u : Byte) :
    decx u (hostWriteResidual n s) = (hostWriteResidual n (decx u s).1, (decx u s).2) := by
  simp [decx]

@[simp] theorem mulBy_hostWriteResidual (v : Byte) :
    mulBy v (hostWriteResidual n s) = hostWriteResidual n (mulBy v s) := by
  simp [mulBy]

@[simp] theorem divBy_hostWriteResidual (v : Byte) :
    divBy v (hostWriteResidual n s) = hostWriteResidual n (divBy v s) := by
  simp [divBy]

@[simp] theorem rotA_hostWriteResidual (op : RotOp) :
    rotA op (hostWriteResidual n s) = hostWriteResidual n (rotA op s) := by
  simp [rotA]

@[simp] theorem rotReg_hostWriteResidual (op : RotOp) (p : Reg8) :
    rotReg op p (hostWriteResidual n s) = hostWriteResidual n (rotReg op p s) := by
  simp [rotReg]

@[simp] theorem rotMem_hostWriteResidual (op : RotOp) (m : Mem) :
    rotMem op m (hostWriteResidual n s) = hostWriteResidual n (rotMem op m s) := by
  simp [rotMem]

@[simp] theorem digitRotate_hostWriteResidual (f : Byte → Byte → Byte × Byte) (m : Mem) :
    digitRotate f m (hostWriteResidual n s) = hostWriteResidual n (digitRotate f m s) := by
  simp [digitRotate]

/-! ### Time -/

@[simp] theorem tickTimer16_hostWriteResidual :
    tickTimer16 (hostWriteResidual n s) = hostWriteResidual n (tickTimer16 s) := by
  unfold tickTimer16
  dsimp only [hostWriteResidual_t4]
  split <;> rfl

@[simp] theorem chain_hostWriteResidual (i : Fin 4) :
    chain i (hostWriteResidual n s) = hostWriteResidual n (chain i s) := by
  simp [chain]

@[simp] theorem tickTimer8_hostWriteResidual (i : Fin 4) :
    tickTimer8 i (hostWriteResidual n s) = hostWriteResidual n (tickTimer8 i s) := by
  simp [tickTimer8]

@[simp] theorem cycleTimer8_hostWriteResidual (i : Fin 4) :
    cycleTimer8 i (hostWriteResidual n s) = hostWriteResidual n (cycleTimer8 i s) := by
  simp [cycleTimer8]

@[simp] theorem cycleTimer16_hostWriteResidual :
    cycleTimer16 (hostWriteResidual n s) = hostWriteResidual n (cycleTimer16 s) := by
  unfold cycleTimer16
  dsimp only [hostWriteResidual_t4, setTimer16_hostWriteResidual]
  rw [tickTimer16_hostWriteResidual]
  split
  · split <;> rfl
  · rfl

end Operations

@[simp] theorem advanceTimers_hostWriteResidual (n k : Nat) (s : State) :
    advanceTimers k (hostWriteResidual n s) = hostWriteResidual n (advanceTimers k s) := by
  induction k generalizing s with
  | zero => rfl
  | succ k ih => simp [advanceTimers, advanceCycle, ih]

theorem endStep_hostWriteResidual (n : Nat) (s : State) :
    endStep (hostWriteResidual n s) = hostWriteResidual n (endStep s) :=
  advanceTimers_hostWriteResidual n s.cost s

theorem finish_hostWriteResidual (n : Nat) (deferred isEi : Bool) (s : State) :
    finish deferred isEi (hostWriteResidual n s) = hostWriteResidual n (finish deferred isEi s) := by
  have enable : deferredEnable deferred isEi (hostWriteResidual n s) =
      hostWriteResidual n (deferredEnable deferred isEi s) := by
    unfold deferredEnable
    rw [hostWriteResidual_afterEi]
    split <;> rfl
  rw [finish, enable, endStep_hostWriteResidual]
  rfl

/-! ### Instructions and steps -/

/-- The answers are next states that differ in `residual` only, the second holding `n`. -/
def AnswersAlike (n : Nat) (o o' : Res) : Prop := ∃ t, o = .next t ∧ o' = .next (hostWriteResidual n t)

theorem answersAlike_done {n row dflt : Nat} {t t' : State} (h : t' = hostWriteResidual n t) :
    AnswersAlike n (done t row dflt) (done t' row dflt) := by
  subst h
  exact ⟨_, rfl, rfl⟩

theorem answersAlike_doneIf {n row ifTrue ifFalse : Nat} {r r' : State × Bool}
    (h : r' = (hostWriteResidual n r.1, r.2)) :
    AnswersAlike n (doneIf r row ifTrue ifFalse) (doneIf r' row ifTrue ifFalse) := by
  subst h
  exact ⟨_, rfl, rfl⟩

/-- No instruction reads or writes `residual`. -/
theorem exec_hostWriteResidual (n : Nat) (i : Instr) (s : State) :
    AnswersAlike n (exec i s) (exec i (hostWriteResidual n s)) := by
  cases i with
  | ldir | lddr | cpir | cpdr | djnz | djnzBc | jr | jpCc | callCc | retCc | incx | decx =>
    exact answersAlike_doneIf (by simp)
  | halt | di | ei | swi => exact answersAlike_done (by simp [Machine.halt, Machine.di, Machine.ei, Machine.swi])
  | bitAtU | bitAt | bitR | setAtU | setAt | setR | resAtU | resAt | resR | tsetAt | tsetR | rcf | scf | ccf =>
    exact answersAlike_done (by simp [bitMem, bitReg, setMem, setReg, resMem, resReg, tsetMem, tsetReg, Machine.rcf,
      Machine.scf, Machine.ccf])
  | incR | decR | incwAtU | incwAt | decwAtU | decwAt | neg | cpl | daa =>
    exact answersAlike_done (by simp [incReg, decReg, incwMem, decwMem, Machine.neg, Machine.cpl, Machine.daa])
  | ldAAtU | ldRAt | ldAtUA | ldAtR | ldAtUN | ldAtN =>
    exact answersAlike_done (by simp [loadR, storeR, storeN])
  | ldHlAtU | ldGAt | ldAtUHl | ldAtG | ldwAtU | ldwAt | lda | ldar =>
    exact answersAlike_done (by simp [loadG, storeG, storeW, Machine.lda, Machine.ldar])
  | push | pop | exDeHl | exAt =>
    exact answersAlike_done (by simp [pushQ, popQ, Machine.exDeHl, exMem])
  | mulAt | divAt | rldAt | rrdAt => exact answersAlike_done (by simp [mulMem, divMem, rld, rrd])
  | _ => exact answersAlike_done (by simp)

theorem runDec_hostWriteResidual (n : Nat) (d : Dec) (s : State) :
    runDec d (hostWriteResidual n s) = ((runDec d s).1, hostWriteResidual n (runDec d s).2) := by
  induction d generalizing s with
  | instr | unknown => rfl
  | more k ih => rw [runDec, runDec, fetch8_hostWriteResidual, ih]

/-- An instruction step neither reads nor writes `residual`. -/
theorem stepInstr_hostWriteResidual (n : Nat) (s : State) :
    AnswersAlike n (stepInstr s) (stepInstr (hostWriteResidual n s)) := by
  have fetch : fetchDecode (hostWriteResidual n s) = ((fetchDecode s).1, hostWriteResidual n (fetchDecode s).2) :=
    runDec_hostWriteResidual n _ s
  unfold stepInstr
  rw [fetch]
  cases fetchDecode s with
  | mk found s1 =>
    cases found with
    | none => exact ⟨_, rfl, congrArg _ (finish_hostWriteResidual n _ _ (unknownOp s1))⟩
    | some i =>
      obtain ⟨t, answer, answer'⟩ := exec_hostWriteResidual n i s1
      dsimp only
      rw [answer, answer']
      exact ⟨_, rfl, congrArg _ (finish_hostWriteResidual n _ _ t)⟩

/-- A step neither reads nor writes `residual` (R36). -/
theorem step_hostWriteResidual (n : Nat) (s : State) : AnswersAlike n (step s) (step (hostWriteResidual n s)) := by
  have sources : checkInterrupts (hostWriteResidual n s) = checkInterrupts s := rfl
  unfold step
  rw [sources]
  split
  next i _ =>
    have accepted : acceptStep i (hostWriteResidual n s) = hostWriteResidual n (acceptStep i s) := by
      rw [acceptStep, hostWriteResidual_pc, accept_hostWriteResidual]
      exact endStep_hostWriteResidual n ((accept i s.pc s).setCost s.cfg.intCost.val)
    exact ⟨_, rfl, congrArg _ accepted⟩
  next =>
    rw [hostWriteResidual_halted]
    split
    · exact ⟨_, rfl, congrArg _ (endStep_hostWriteResidual n (s.setCost 1))⟩
    · exact stepInstr_hostWriteResidual n s

end Sys2Proof.Machine
end

section
/-! SUPPORT. The run (spec 60 R370): steps taken while budget is left, and what the loop makes of them. -/

namespace Sys2Proof.Machine

/-- From `s`, with `avail` cycles of budget, the steps taken while budget is left use `used` cycles and end in `t`. -/
inductive Spends : Int → State → Nat → State → Prop where
  | stop {avail : Int} {s : State} (h : avail ≤ 0) : Spends avail s 0 s
  | step {avail : Int} {s t u : State} {used : Nat} (h : 0 < avail) (answer : step s = .next t)
      (rest : Spends (avail - t.cost) t used u) : Spends avail s (t.cost + used) u

namespace Spends

/-- Every budget is spent, since every step costs a cycle or more. -/
theorem exists_of_le {fuel : Nat} {avail : Int} (h : avail ≤ fuel) (s : State) : ∃ used t, Spends avail s used t := by
  induction fuel generalizing avail s with
  | zero => exact ⟨0, s, .stop h⟩
  | succ fuel ih =>
    by_cases positive : 0 < avail
    · obtain ⟨t, answer, cost⟩ := step_costsCycles s
      obtain ⟨used, u, rest⟩ := ih (avail := avail - t.cost) (by omega) t
      exact ⟨_, u, .step positive answer rest⟩
    · exact ⟨0, s, .stop (by omega)⟩

/-- The budget is used up or overshot. -/
theorem avail_le {avail : Int} {s t : State} {used : Nat} (h : Spends avail s used t) : avail ≤ used := by
  induction h with
  | stop h => exact h
  | step h answer rest ih => push_cast; omega

/-- With fuel for the budget, the loop spends it and leaves the overshoot in `residual`. -/
theorem runLoop_eq {avail : Int} {s t : State} {used : Nat} (h : Spends avail s used t) {fuel : Nat}
    (enough : avail ≤ fuel) (before : Nat) :
    runLoop fuel avail before s = .next (hostWriteResidual (used - avail).toNat t, before + used) := by
  induction h generalizing fuel before with
  | @stop avail s h =>
    have spent : ((0 : Nat) - avail) = -avail := by omega
    rw [spent]
    cases fuel with
    | zero => rfl
    | succ fuel => rw [runLoop, if_neg (by omega)]; rfl
  | @step avail s t u used h answer rest ih =>
    obtain ⟨t', answer', cost⟩ := step_costsCycles s
    obtain rfl := Host.Outcome.next.inj (answer.symm.trans answer')
    cases fuel with
    | zero => omega
    | succ fuel =>
      have overshoot : ((t.cost + used : Nat) - avail : Int) = used - (avail - t.cost) := by push_cast; omega
      rw [runLoop, if_pos h, answer, overshoot, ← Nat.add_assoc]
      exact ih (by omega) (before + t.cost)

/-- A further budget after the first continues it. -/
theorem append {avail : Int} {s t u : State} {used used' : Nat} (h : Spends avail s used t) {more : Nat}
    (k : Spends (avail - used + more) t used' u) : Spends (avail + more) s (used + used') u := by
  induction h with
  | stop h => simpa using k
  | @step avail s t v used h answer rest ih =>
    rw [Nat.add_assoc]
    refine .step (by omega) answer ?_
    have budget : avail - ((t.cost + used : Nat) : Int) + more = avail - t.cost - used + more := by push_cast; omega
    rw [budget] at k
    have continued := ih k
    rwa [show avail - t.cost + more = avail + more - t.cost by omega] at continued

/-- What `residual` holds before makes no difference. -/
theorem withResidual {avail : Int} {s t : State} {used : Nat} (h : Spends avail s used t) (n : Nat) :
    Spends avail (hostWriteResidual n s) used (hostWriteResidual n t) := by
  induction h with
  | stop h => exact .stop h
  | @step avail s t u used h answer rest ih =>
    obtain ⟨t', answer', alike⟩ := step_hostWriteResidual n s
    obtain rfl := Host.Outcome.next.inj (answer.symm.trans answer')
    exact .step (t := hostWriteResidual n t) h alike ih

/-- The steps of a run keep the invariant. -/
theorem keeps_invariant {avail : Int} {s t : State} {used : Nat} (h : Spends avail s used t) (inv : MachineInv s) :
    MachineInv t := by
  induction h with
  | stop => exact inv
  | @step avail s t u used h answer rest ih => exact ih (stepKeepsInvariant s t inv answer)

end Spends

/-- A run spends its budget less what the last one overshot, and keeps its own overshoot in `residual`. -/
theorem run_of_spends {n used : Nat} {s t : State} (h : Spends (n - s.residual) s used t) :
    run n s = .next (hostWriteResidual (used - ((n : Int) - s.residual)).toNat t, used) := by
  rw [run, h.runLoop_eq (by omega), Nat.zero_add]

end Sys2Proof.Machine

section Statements

open Sys2Proof Sys2Proof.Machine

/-- Settles O21: the second run takes up the budget where the first left it, with the overshoot deducted. -/
theorem runSplitInvariance : Obligations.RunSplitInvariance := by
  intro a b s
  obtain ⟨used, t, first⟩ := Spends.exists_of_le (fuel := a) (avail := a - s.residual) (by omega) s
  have overshot := first.avail_le
  obtain ⟨used', u, second⟩ :=
    Spends.exists_of_le (fuel := b) (avail := a - s.residual - used + b) (by omega) t
  have whole := first.append second
  generalize hr : ((used : Int) - ((a : Int) - s.residual)).toNat = r
  have deducted : (a - s.residual - used + b : Int) = b - (hostWriteResidual r t).residual := by
    change _ = (b : Int) - r
    omega
  have total : (a - s.residual + b : Int) = (a + b : Nat) - s.residual := by
    push_cast
    omega
  have resumed := second.withResidual r
  rw [deducted] at resumed
  rw [total] at whole
  refine ⟨_, used, _, used', hr ▸ run_of_spends first, run_of_spends resumed, ?_⟩
  rw [run_of_spends whole, ← deducted, ← total]
  have overshoot : ((used + used' : Nat) - (a - s.residual + b) : Int) = used' - (a - s.residual - used + b) := by
    push_cast
    omega
  rw [overshoot]
  rfl

end Statements
end

section
/-! SUPPORT. The host's calls keep the invariant (spec 60 R314, R348, R366, R370 to R373; 10 R38, R39). -/

namespace Sys2Proof.Machine

variable {s : State}

theorem MachineInv.setIrqLine (h : MachineInv s) (i : Fin 14) (level : Bool) : MachineInv (setIrqLine i level s) := by
  obtain ⟨hmem, hmask, ⟨h0, h3⟩, hline, hpresc⟩ := h
  have line : (Machine.setIrqLine i level s).line.getLsbD 0 = false :=
    (setIrqLine_line i level s 0).trans (by rw [hline]; simp)
  have latch0 : (Machine.setIrqLine i level s).pending.getLsbD 0 = false :=
    (setIrqLine_pending i level s 0).trans (by rw [h0]; simp)
  have latch3 : (Machine.setIrqLine i level s).pending.getLsbD 3 = false :=
    (setIrqLine_pending i level s 3).trans (by rw [h3]; simp)
  obtain ⟨l, p, eq⟩ := setIrqLine_state i level s
  rw [eq] at line latch0 latch3 ⊢
  exact ⟨hmem, hmask, ⟨latch0, latch3⟩, line, hpresc⟩

/-- The bits that a latch or a line of the host's word does not have. -/
theorem getLsbD_and_of_mask {w mask : BitVec 14} {j : Nat} (h : mask.getLsbD j = false) :
    (w &&& mask).getLsbD j = false := by
  rw [BitVec.getLsbD_and, h, Bool.and_false]

/-- A host write under any name (R366): of a register, of the bits of the controller that exist, of a part of a timer, or as
a program's store. -/
theorem MachineInv.hostWrite (h : MachineInv s) (r : HostReg) (w : Word) : MachineInv (hostWrite r w s) := by
  obtain ⟨hmem, hmask, hpending, hline, hpresc⟩ := id h
  cases r with
  | half r => exact (Ordinary.refl.set8 r _).keeps_invariant h
  | pair g => exact (Ordinary.refl.set16 g _).keeps_invariant h
  | pending => exact h.setPending (getLsbD_and_of_mask rfl) (getLsbD_and_of_mask rfl)
  | mask => exact h.setMask (getLsbD_and_of_mask rfl) (getLsbD_and_of_mask rfl) (getLsbD_and_of_mask rfl)
  | line => exact ⟨hmem, hmask, hpending, getLsbD_and_of_mask rfl, hpresc⟩
  | timer8 i k => exact h.setTimer8 i ((s.timer8 i).set_presc_le k w (h.timer8_presc i))
  | timer4 k => exact h.setTimer16 (s.t4.set_presc_le k w h.timer16_presc)
  | control c => exact h.ioWrite c.ioReg _
  | _ => exact h

end Sys2Proof.Machine

section Statements

open Sys2Proof Sys2Proof.Machine

/-- Settles O4, call by call; a run is steps, and `residual` is no part of the invariant. -/
theorem hostKeepsInvariant : Obligations.HostKeepsInvariant := by
  intro s inv
  refine ⟨inv.setIrqLine, fun i => ?ext8, ?ext16, inv.advanceTimers, ?reset, inv.hostWrite, fun _ _ => inv,
    fun _ => inv, fun n r answer => ?run⟩
  case ext8 =>
    unfold timerExtEvent8
    split
    · exact inv.tickTimer8 i
    · exact inv
  case ext16 =>
    unfold timerExtEvent16
    split
    · exact inv.tickTimer16
    · exact inv
  case reset =>
    obtain ⟨hmem, -⟩ := inv
    obtain ⟨-, cleared⟩ := resetMeetsInvariant
    exact ⟨hmem, cleared⟩
  case run =>
    obtain ⟨used, t, spent⟩ := Spends.exists_of_le (fuel := n) (avail := n - s.residual) (by omega) s
    rw [run_of_spends spent] at answer
    obtain rfl := Host.Outcome.next.inj answer
    exact spent.keeps_invariant inv

end Statements
end
